-- ==== Sys2Proof/Word.lean ====
section
/-! DEFINITION. The words of the engine: bytes on the link, 32-bit host words, 48-bit command frames (00 R6, 30 R60). -/

namespace Sys2Proof

/-- An 8-bit unsigned value (00 R6). -/
abbrev Byte := BitVec 8

/-- A 32-bit host register, operand or command argument (10 R11, 10 R27). -/
abbrev Word := BitVec 32

/-- A command frame as one 48-bit word, frame byte 0 in bits 47:40 (30 R60). -/
abbrev Frame := BitVec 48

end Sys2Proof
end

