-- ==== Sys2Proof/Config.lean ====
section
/-! DEFINITION. What an implementation fixes (the parameters of 00 R5, the fixed sizes) and the free values: opaque
constants with no body, so that no proof can see what they are. -/

namespace Sys2Proof

/-- The implementation parameters of 00 R5. They are configuration: State carries them (log 7) and no step changes them.
A limit of 0 means "no bound" (40 R95). -/
structure Params where
  /-- `NOT_BUSY_LIMIT`: most exchanges of one wait-not-busy poll. -/
  notBusyLimit : Nat
  /-- `R1_LIMIT`: most exchanges of one R1 poll. -/
  r1Limit : Nat
  /-- `TOKEN_LIMIT`: most exchanges of one data-token wait. -/
  tokenLimit : Nat
  /-- `ACMD41_LIMIT`: most CMD55+ACMD41 rounds of INIT step S7. -/
  acmd41Limit : Nat
  /-- `DATA_CRC_ENABLE`: CRC16 generated on writes and checked on reads. -/
  dataCrcEnable : Bool
  /-- `INIT_DUMMY_BYTES`: how many 0xFF bytes INIT clocks out with the card deselected. -/
  initDummyBytes : Nat
  deriving DecidableEq, Repr

/-- The reference design, what the source describes (00 R5, 93 U9). -/
def Params.reference : Params :=
  { notBusyLimit := 0, r1Limit := 0, tokenLimit := 0, acmd41Limit := 0, dataCrcEnable := false, initDummyBytes := 80 }

/-- The one constraint 00 R5 puts on a parameter's value: `INIT_DUMMY_BYTES` is a natural number of at least 1. -/
abbrev Params.legal (p : Params) : Prop := 1 ≤ p.initDummyBytes

/-- `BLOCK_SIZE`: bytes per data block, fixed (00 R5, 20 R41). -/
abbrev Config.blockSize : Nat := 512

/-- `CSD_SIZE`: bytes of the CSD register, fixed (00 R5). -/
abbrev Config.csdSize : Nat := 16

/-- What a free value is drawn for. -/
inductive FreeSlot where
  | arg | argl | blockCount | r1 | dresp | token
  | buf (i : Nat) | resp (i : Nat) | csd (i : Nat)
  /-- a result register read while BUSY = 1 (10 R36) -/
  | busyRead (number : Nat)
  deriving DecidableEq, Repr

/-- FREE VALUE: what an element the spec calls unspecified holds (10 R37, 93 Part 1 "any value"), by width, by the
number of the draw and by the element. It has no body: nothing constrains it (log 1, 3, 4, 5, 6, 10). -/
opaque Config.freeBits (width draw : Nat) (slot : FreeSlot) : BitVec width

/-- What one call of the Byte Transport gives in one step (40 R92): a byte, or no return yet. A transport that never
returns is the answer `blocked` in every step (70 R262, last row; log 8). -/
inductive LinkReply where
  | byte (r : Byte)
  | blocked
  deriving DecidableEq, Repr, Inhabited

/-- FREE VALUE: what the environment answers to the byte sent in an exchange that the list of coming replies in State
says nothing of (20 R46, 93 U11: any value, no fairness assumed), by the number of the draw and the byte sent (log 8). -/
opaque Config.linkReply (draw : Nat) (sent : Byte) : LinkReply

end Sys2Proof
end

