-- ==== Sys2Proof/Machine/Crc.lean ====
section
/-! DEFINITION. The CRC7 generator and the CRC16 generator/checker (41 R120, R123), bit by bit. The polynomials and
initial values are the spec's general knowledge (93 G1, G2), PRESUMED (log 20). -/

namespace Sys2Proof.Machine

/-- One bit of 41 R120: the feedback bit, the shift in 7 bits, the constant 0x09. -/
def crc7Bit (c : BitVec 7) (b : Bool) : BitVec 7 :=
  if (c.getLsbD 6 ^^ b) = true then (c <<< 1) ^^^ 0x09#7 else c <<< 1

/-- One byte of 41 R120: bits 7 down to 0. -/
def crc7Byte (c : BitVec 7) (b : Byte) : BitVec 7 :=
  [7, 6, 5, 4, 3, 2, 1, 0].foldl (fun c i => crc7Bit c (b.getLsbD i)) c

/-- `crc7(bytes)` of 41 R120. -/
def crc7 (bytes : List Byte) : BitVec 7 := bytes.foldl crc7Byte 0#7

/-- One of the eight repetitions of 41 R123. -/
def crc16Shift (c : BitVec 16) : BitVec 16 :=
  if c.getLsbD 15 = true then (c <<< 1) ^^^ 0x1021#16 else c <<< 1

/-- One byte of 41 R123: exclusive-or into the high byte, then eight shifts. -/
def crc16Byte (c : BitVec 16) (b : Byte) : BitVec 16 :=
  (List.range 8).foldl (fun c _ => crc16Shift c) (c ^^^ (b.setWidth 16 <<< 8))

/-- `crc16(bytes)` of 41 R123. -/
def crc16 (bytes : List Byte) : BitVec 16 := bytes.foldl crc16Byte 0#16

/-- Frame bytes 0 to 4 (30 R60, R73): `0x40 | index`, then the argument high byte first. -/
def frameHead (index : BitVec 6) (arg : Word) : List Byte :=
  [0b01#2 ++ index, arg.extractLsb' 24 8, arg.extractLsb' 16 8, arg.extractLsb' 8 8, arg.extractLsb' 0 8]

/-- The CRC7 of frame bytes 0 to 4 (30 R60, 41 R121). -/
def frameCrc7 (index : BitVec 6) (arg : Word) : BitVec 7 := crc7 (frameHead index arg)

end Sys2Proof.Machine
end

