-- ==== Sys2Proof/Syntax.lean ====
section
/-! DEFINITION. The instructions: one constructor per row of spec/opcode_table.json, in the table's order. -/

namespace Sys2Proof

/-- The rows of the opcode table. The host operations are codes written to `CTRL` (30 R80, R81); the frames, tokens and
the filler are what the engine sends on the link (30 R62, R68, R71); the read token, the accepted data response and R1
are what it recognises in a received byte (30 R64, R68, R70). -/
inductive Instr where
  -- host operations (30 R80)
  | init
  | getBlocksNumber
  | readSingleBlock
  | writeSingleBlock
  | readBegin
  | readData
  | readEnd
  | writeBegin
  | writeData
  | writeEnd
  | unselect
  -- reserved host codes (30 R81)
  | reserved0
  | reservedC
  | reservedD
  | reservedE
  | reservedF
  -- constant command frames (30 R62)
  | cmd0
  | cmd8
  | cmd9
  | cmd12
  | cmd55
  | acmd41
  | cmd58
  -- command frames with a block index and its CRC7 (30 R62)
  | cmd17 (block : Word) (crc : BitVec 7)
  | cmd18 (block : Word) (crc : BitVec 7)
  | cmd24 (block : Word) (crc : BitVec 7)
  | cmd25 (block : Word) (crc : BitVec 7)
  -- tokens (30 R68)
  | tokenStartBlockRead
  | tokenStartBlockWriteSingle
  | tokenStartBlockWriteMulti
  | tokenStopTran
  -- bytes the engine recognises (30 R70, R64)
  | dataResponseAccepted (ignored : BitVec 3)
  | r1 (flags : BitVec 7)
  -- the byte of every receive-only exchange (30 R71)
  | filler
  deriving DecidableEq, Repr

end Sys2Proof
end

