-- ==== Sys2Proof/WellFormed.lean ====
section
/-! DEFINITION. When an instruction is well formed: what the fields' types do not already say. -/

namespace Sys2Proof

/-- A block-index frame carries the CRC7 of its first five bytes (30 R60, R62; 41 R121). Every other row has no field
that a value of its type could get wrong. -/
def Instr.wellFormed : Instr → Bool
  | .init | .getBlocksNumber | .readSingleBlock | .writeSingleBlock | .readBegin | .readData | .readEnd | .writeBegin
  | .writeData | .writeEnd | .unselect => true
  | .reserved0 | .reservedC | .reservedD | .reservedE | .reservedF => true
  | .cmd0 | .cmd8 | .cmd9 | .cmd12 | .cmd55 | .acmd41 | .cmd58 => true
  | .cmd17 block crc => crc == Machine.frameCrc7 17#6 block
  | .cmd18 block crc => crc == Machine.frameCrc7 18#6 block
  | .cmd24 block crc => crc == Machine.frameCrc7 24#6 block
  | .cmd25 block crc => crc == Machine.frameCrc7 25#6 block
  | .tokenStartBlockRead | .tokenStartBlockWriteSingle | .tokenStartBlockWriteMulti | .tokenStopTran => true
  | .dataResponseAccepted _ | .r1 _ | .filler => true

end Sys2Proof
end

