-- ==== Sys2Proof/Decode.lean ====
section
/-! DEFINITION. The decoder and the encoder. The rows' bit patterns overlap (0xFE is two tokens, R1 and the data
response cover host codes), because every byte is read in a context the sequence fixes (30 R82); so what is decoded is
a `Code`: the bits together with where they stand (log 16). -/

namespace Sys2Proof

/-- A word to decode, with the place it stands at (30 R82). -/
inductive Code where
  /-- the value of a host write to `CTRL` (10 R28) -/
  | ctrl (value : Word)
  /-- a command frame the engine is about to send (30 R60) -/
  | frame (f : Frame)
  /-- a single byte the engine is about to send at a token or filler position (30 R68, R71) -/
  | sent (t : Byte)
  /-- a byte the R1 poll received (40 R96) -/
  | r1Poll (r : Byte)
  /-- a byte the data-token wait received (40 R100) -/
  | tokenWait (r : Byte)
  /-- the byte after the second CRC byte of a written block (40 R104) -/
  | dataResponse (r : Byte)
  deriving DecidableEq, Repr

/-- Why a code decodes to no row of the table. -/
inductive DecodeError where
  /-- bits 47:46 are not 01 or bit 0 is not 1 (30 R60) -/
  | notAFrame
  /-- an index outside the command set of 00 R2 -/
  | unknownIndex (index : BitVec 6)
  /-- a constant frame with another argument (30 R62) -/
  | wrongArgument
  /-- a constant frame with another CRC byte (30 R62) -/
  | wrongCrc
  /-- a sent byte that is no token and not the filler (30 R82) -/
  | notAToken
  /-- bit 7 is set: not yet the response (30 R64) -/
  | notYetR1
  /-- not the start token 0xFE (30 R68) -/
  | notStartToken
  /-- the low five bits are not 00101 (30 R70) -/
  | notAccepted
  deriving DecidableEq, Repr

/-- `frame = {0b01, index[5:0], arg[31:0], crc7[6:0], 0b1}` (30 R60). -/
def frameWord (index : BitVec 6) (arg : Word) (crc : BitVec 7) : Frame :=
  0b01#2 ++ index ++ arg ++ crc ++ 1#1

/-- Bits 3:0 of a `CTRL` write; bits 31:4 are ignored (10 R28, 30 R80, R81). -/
def decodeOp (code : BitVec 4) : Instr :=
  match code.toNat with
  | 0x1 => .init
  | 0x2 => .getBlocksNumber
  | 0x3 => .readSingleBlock
  | 0x4 => .writeSingleBlock
  | 0x5 => .readBegin
  | 0x6 => .readData
  | 0x7 => .readEnd
  | 0x8 => .writeBegin
  | 0x9 => .writeData
  | 0xA => .writeEnd
  | 0xB => .unselect
  | 0xC => .reservedC
  | 0xD => .reservedD
  | 0xE => .reservedE
  | 0xF => .reservedF
  | _ => .reserved0

/-- A constant frame is this argument and this CRC7, nothing else (30 R62: the engine sends no other). -/
def decodeConstant (i : Instr) (arg : Word) (crc : BitVec 7) (wantArg : Word) (wantCrc : BitVec 7) :
    Except DecodeError Instr :=
  if arg = wantArg then if crc = wantCrc then .ok i else .error .wrongCrc else .error .wrongArgument

/-- The command set of 00 R2 by index, with the arguments and CRC7 values of 30 R62 and 41 R122. -/
def decodeCommand (index : BitVec 6) (arg : Word) (crc : BitVec 7) : Except DecodeError Instr :=
  match index.toNat with
  | 0 => decodeConstant .cmd0 arg crc 0x00000000#32 0x4A#7
  | 8 => decodeConstant .cmd8 arg crc 0x000001AA#32 0x43#7
  | 9 => decodeConstant .cmd9 arg crc 0x00000000#32 0x57#7
  | 12 => decodeConstant .cmd12 arg crc 0x00000000#32 0x30#7
  | 17 => .ok (.cmd17 arg crc)
  | 18 => .ok (.cmd18 arg crc)
  | 24 => .ok (.cmd24 arg crc)
  | 25 => .ok (.cmd25 arg crc)
  | 41 => decodeConstant .acmd41 arg crc 0x40000000#32 0x3B#7
  | 55 => decodeConstant .cmd55 arg crc 0x00000000#32 0x32#7
  | 58 => decodeConstant .cmd58 arg crc 0x00000000#32 0x7E#7
  | _ => .error (.unknownIndex index)

/-- A 48-bit frame: the start and transmission bits, the index, the argument, the CRC7 and the stop bit (30 R60). -/
def decodeFrame (f : Frame) : Except DecodeError Instr :=
  if f.extractLsb' 46 2 = 0b01#2 ∧ f.extractLsb' 0 1 = 1#1 then
    decodeCommand (f.extractLsb' 40 6) (f.extractLsb' 8 32) (f.extractLsb' 1 7)
  else .error .notAFrame

/-- A token or filler byte the engine sends (30 R68, R71). -/
def decodeSent (t : Byte) : Except DecodeError Instr :=
  if t = 0xFE#8 then .ok .tokenStartBlockWriteSingle
  else if t = 0xFC#8 then .ok .tokenStartBlockWriteMulti
  else if t = 0xFD#8 then .ok .tokenStopTran
  else if t = 0xFF#8 then .ok .filler
  else .error .notAToken

/-- The decoder: total, and rejecting by name. -/
def decode : Code → Except DecodeError Instr
  | .ctrl value => .ok (decodeOp (value.extractLsb' 0 4))
  | .frame f => decodeFrame f
  | .sent t => decodeSent t
  | .r1Poll r => if r.extractLsb' 7 1 = 0#1 then .ok (.r1 (r.extractLsb' 0 7)) else .error .notYetR1
  | .tokenWait r => if r = 0xFE#8 then .ok .tokenStartBlockRead else .error .notStartToken
  | .dataResponse r =>
    if r.extractLsb' 0 5 = 0b00101#5 then .ok (.dataResponseAccepted (r.extractLsb' 5 3)) else .error .notAccepted

/-- The encoder: the word of each row, from 30 R62, R64, R68, R70, R71, R80, R81. The ignored bits of a `CTRL` write are
zeros. -/
def encode : Instr → Code
  | .init => .ctrl 0x1#32
  | .getBlocksNumber => .ctrl 0x2#32
  | .readSingleBlock => .ctrl 0x3#32
  | .writeSingleBlock => .ctrl 0x4#32
  | .readBegin => .ctrl 0x5#32
  | .readData => .ctrl 0x6#32
  | .readEnd => .ctrl 0x7#32
  | .writeBegin => .ctrl 0x8#32
  | .writeData => .ctrl 0x9#32
  | .writeEnd => .ctrl 0xA#32
  | .unselect => .ctrl 0xB#32
  | .reserved0 => .ctrl 0x0#32
  | .reservedC => .ctrl 0xC#32
  | .reservedD => .ctrl 0xD#32
  | .reservedE => .ctrl 0xE#32
  | .reservedF => .ctrl 0xF#32
  | .cmd0 => .frame 0x400000000095#48
  | .cmd8 => .frame 0x48000001AA87#48
  | .cmd9 => .frame 0x4900000000AF#48
  | .cmd12 => .frame 0x4C0000000061#48
  | .cmd55 => .frame 0x770000000065#48
  | .acmd41 => .frame 0x694000000077#48
  | .cmd58 => .frame 0x7A00000000FD#48
  | .cmd17 block crc => .frame (frameWord 17#6 block crc)
  | .cmd18 block crc => .frame (frameWord 18#6 block crc)
  | .cmd24 block crc => .frame (frameWord 24#6 block crc)
  | .cmd25 block crc => .frame (frameWord 25#6 block crc)
  | .tokenStartBlockRead => .tokenWait 0xFE#8
  | .tokenStartBlockWriteSingle => .sent 0xFE#8
  | .tokenStartBlockWriteMulti => .sent 0xFC#8
  | .tokenStopTran => .sent 0xFD#8
  | .dataResponseAccepted ignored => .dataResponse (ignored ++ 0b00101#5)
  | .r1 flags => .r1Poll (0#1 ++ flags)
  | .filler => .sent 0xFF#8

/-- Where a table word with no context stands. A 48-bit word is a frame; 4 bits, and 32 bits, are a `CTRL` value. An
8-bit word is a host code when its bits 7:4 are zero; else 0xFE, 0xFC, 0xFD, 0xFF are tokens (0xFE the read token, the
table's first row of that value); else low five bits 00101 are a data response; else bit 7 clear is an R1. Words that
several rows share go to one of them (log 17). -/
def tableCode (nbits w : Nat) : Option Code :=
  if nbits = 48 then some (.frame (BitVec.ofNat 48 w))
  else if nbits = 4 ∨ nbits = 32 then some (.ctrl (BitVec.ofNat 32 w))
  else if nbits = 8 then
    let b : Byte := BitVec.ofNat 8 w
    if b.extractLsb' 4 4 = 0#4 then some (.ctrl (BitVec.ofNat 32 w))
    else if b = 0xFE#8 then some (.tokenWait b)
    else if b = 0xFC#8 ∨ b = 0xFD#8 ∨ b = 0xFF#8 then some (.sent b)
    else if b.extractLsb' 0 5 = 0b00101#5 then some (.dataResponse b)
    else if b.extractLsb' 7 1 = 0#1 then some (.r1Poll b)
    else none
  else none

/-- The instruction the decoder reads from a word of the opcode table, bits numbered as the table numbers them: a frame
is one 48-bit word with frame byte 0 in bits 47:40. -/
def decodeTableWord (nbits w : Nat) : Option Instr :=
  match tableCode nbits w with
  | some c => match decode c with
    | .ok i => some i
    | .error _ => none
  | none => none

end Sys2Proof
end

