-- ==== Sys2Proof/Machine/State.lean ====
section
/-! DEFINITION. The machine's state: every element of 10 R10, what lives for one transmission, the environment's side
(00 R8, 20 R46, 10 R27) and the model's own bookkeeping. Plain data throughout. -/

namespace Sys2Proof.Machine

/-- The eleven operations (30 R80). -/
inductive Op where
  | init | getBlocksNumber | readSingleBlock | writeSingleBlock | readBegin | readData | readEnd | writeBegin | writeData
  | writeEnd | unselect
  deriving DecidableEq, Repr

/-- The eleven commands of 00 R2. Each is sent at one place of one operation (30 R62), so a command also names that
place. -/
inductive Cmd where
  | cmd0 | cmd8 | cmd9 | cmd12 | cmd17 | cmd18 | cmd24 | cmd25 | cmd55 | acmd41 | cmd58
  deriving DecidableEq, Repr

/-- The two 4-byte payloads (40 R99): R7 after CMD8, OCR after CMD58. -/
inductive Payload where
  | r7 | ocr
  deriving DecidableEq, Repr

/-- The three places a block is read (40 R102): the CSD, READ_SINGLE_BLOCK, READ_DATA. -/
inductive BlockIn where
  | csd | single | stream
  deriving DecidableEq, Repr

/-- The two places a block is sent (40 R103): WRITE_SINGLE_BLOCK, WRITE_DATA. -/
inductive BlockOut where
  | single | stream
  deriving DecidableEq, Repr

/-- The wait-not-busy polls that stand outside a command (40 R94): program time of WRITE_SINGLE_BLOCK and WRITE_DATA,
and WRITE_END. -/
inductive ProgramWait where
  | afterSingle | afterStream | writeEnd
  deriving DecidableEq, Repr

/-- The failures of 60 R221, by name; their codes are `Failure.code`. -/
inductive Failure where
  | initCmd0 | initCmd8R1 | initCmd8R7 | initCmd55 | initAcmd41 | initCmd58 | initOcr
  | csdCmd9 | csdToken | csdVersion
  | rdCmd17 | rdToken | wrCmd24 | wrResp
  | rdbCmd18 | rddToken | rdeCmd12 | wrbCmd25 | wrdResp
  | crcCsd | crcRd | crcRdd
  | timeoutNotBusy | timeoutR1 | timeoutToken | timeoutAcmd41
  | illegalOp
  deriving DecidableEq, Repr

/-- A raised failure (60 R222): which, in which operation, and at which step label S<n> of its sequence. 10 R10 has no
element that keeps it from the failing check to F2; PHASE carries it: the model's choice (log 28). -/
structure Raised where
  failure : Failure
  op : Op
  label : Nat
  deriving DecidableEq, Repr

/-- `PHASE` (10 R24): the step about to be made. `Phase.op` and `Phase.label` give the operation and the step label
S<n> of the spec's sequences; the constructor is the primitive's own label. -/
inductive Phase where
  | idle
  /-- INIT S1, `cs_deassert()` -/
  | initDeselect
  /-- INIT S2, so many dummy bytes already sent (log 14) -/
  | initDummy (sent : Nat)
  /-- the `cs_assert()` of an operation -/
  | select (op : Op)
  /-- the wait-not-busy before a command frame (40 R98) -/
  | cmdWait (c : Cmd)
  /-- frame byte i of a command (40 R97) -/
  | cmdFrame (c : Cmd) (i : Fin 6)
  /-- the stuff byte of CMD12 (40 R98, R105) -/
  | cmdStuff
  /-- the R1 poll of a command (40 R96) -/
  | cmdPollR1 (c : Cmd)
  /-- payload byte BYTE_CNT (40 R99) -/
  | payload (p : Payload)
  /-- the data-token wait (40 R100) -/
  | tokenWait (b : BlockIn)
  /-- data byte BYTE_CNT coming in (40 R101) -/
  | blockIn (b : BlockIn)
  /-- the first CRC byte coming in (40 R101) -/
  | blockInCrcHi (b : BlockIn)
  /-- the second CRC byte coming in (40 R101) -/
  | blockInCrcLo (b : BlockIn)
  /-- the token of a block going out (40 R103) -/
  | blockOutToken (b : BlockOut)
  /-- data byte BYTE_CNT going out (40 R103) -/
  | blockOut (b : BlockOut)
  /-- the first CRC byte going out (40 R103) -/
  | blockOutCrcHi (b : BlockOut)
  /-- the second CRC byte going out (40 R103) -/
  | blockOutCrcLo (b : BlockOut)
  /-- the data-response byte (40 R104) -/
  | dataResponse (b : BlockOut)
  /-- a wait-not-busy outside a command (40 R94) -/
  | programWait (w : ProgramWait)
  /-- WRITE_END S2, the stop-transfer token (45 R185) -/
  | stopToken
  /-- WRITE_END S3, the discarded byte (45 R185, 40 R105) -/
  | stopDiscard
  /-- the `cs_deassert()` of an operation's success path -/
  | deselect (op : Op)
  /-- the completion step of an operation's success path -/
  | complete (op : Op)
  /-- S1 of a reserved code (46 R192) -/
  | illegal
  /-- F1 of the failure path (60 R222), the pending failure kept in the position (log 28) -/
  | failDeselect (f : Raised)
  /-- F2 of the failure path (60 R222), the pending failure kept in the position (log 28) -/
  | failComplete (f : Raised)
  deriving DecidableEq, Repr

/-- `STREAM` (10 R20): NONE, READ or WRITE. The field's value 3 never occurs, so it has no constructor. -/
inductive Stream where
  | none | read | write
  deriving DecidableEq, Repr

/-- The physical chip-select line (70 R252): its level is unspecified until the first call since reset. -/
inductive CsLine where
  | undriven | asserted | deasserted
  deriving DecidableEq, Repr

/-- A link event of `TRACE` (00 R8): SEL, DESEL, X(t, r). -/
inductive LinkEvent where
  | sel
  | desel
  | x (sent received : Byte)
  deriving DecidableEq, Repr

/-- What the host does at one step boundary (10 R27, R28, R36; 70 R250): nothing, so that the engine makes its step; a
register read; a register write; the reset event (log 9). -/
inductive HostEvent where
  | wait
  | read (number : Nat)
  | write (number : Nat) (value : Word)
  | reset
  deriving DecidableEq, Repr

/-- A byte array held as its cells that have a value, addresses strictly rising. An address that is not listed has NO
VALUE (10 R37 "a model gives the element no value"); so no entry can equal what an unlisted address reads as (log 3). -/
abbrev Memory := List Host.Cell

/-- Why the machine stops with a fault. -/
inductive Fault where
  /-- Raised by `step` only, when the frame about to be sent is no frame of 30 R62 ("The engine sends no other command
  index and no other argument for the fixed-argument commands"). No run reaches it (it needs a frame register the
  sequencer never builds). Safe: the model stops where the hardware is never found (log 22). -/
  | badFrame
  deriving DecidableEq, Repr

/-- Why the model has no meaning for an instruction. -/
inductive Refusal where
  /-- Raised by a rejected arm of `exec` only; no arm is rejected in this model. Safe: the model stops. -/
  | notModelled (mnemonic : String)
  deriving DecidableEq, Repr

/-- The state. -/
structure State where
  /-- the parameters of 00 R5; configuration, changed by no step (log 7) -/
  params : Params
  /-- `ARG` (10 R11) -/
  arg : Word
  /-- `BUF[0..511]` (10 R12), the cells that have a value (log 3) -/
  buf : Memory
  /-- `RESP[0..3]` (10 R13) -/
  resp : Vector Byte 4
  /-- `CSD[0..15]` (10 R14) -/
  csd : Vector Byte 16
  /-- `BLOCK_COUNT` (10 R15) -/
  blockCount : BitVec 33
  /-- `RESULT`, two's complement (10 R16) -/
  result : Byte
  /-- `BUSY` (10 R17) -/
  busy : Bool
  /-- `DONE` (10 R17) -/
  done : Bool
  /-- `CS`, the last Chip-Select call (10 R18) -/
  cs : Bool
  /-- `INITIALIZED` (10 R19) -/
  initialized : Bool
  /-- `STREAM` (10 R20) -/
  stream : Stream
  /-- `CUR_CMD` (10 R21) -/
  curCmd : BitVec 6
  /-- `R1` (10 R22) -/
  r1 : Byte
  /-- `DRESP` (10 R22) -/
  dresp : Byte
  /-- `TOKEN` (10 R22) -/
  token : Byte
  /-- `OPL` (10 R23) -/
  opl : BitVec 4
  /-- `ARGL` (10 R23) -/
  argl : Word
  /-- `PHASE` (10 R24) -/
  phase : Phase
  /-- `POLL_CNT` (10 R25) -/
  pollCnt : Nat
  /-- `ROUND_CNT` (10 R25) -/
  roundCnt : Nat
  /-- `BYTE_CNT` (10 R25) -/
  byteCnt : Nat
  /-- `CRC16_ACC` (10 R25, 41 R123) -/
  crc16Acc : BitVec 16
  /-- the frame in transmission (30 R61); 0 outside one (log 13) -/
  txFrame : Frame
  /-- `c_hi` of 40 R101, the first CRC byte until the second has come (log 13) -/
  crcHi : Byte
  /-- MODEL: how many free values have been drawn (log 23) -/
  draws : Nat
  /-- MODEL: the draw that supplies the cells of BUF that have no value (log 3) -/
  bufDraw : Nat
  /-- ENVIRONMENT: the physical chip-select line (70 R252) -/
  csLine : CsLine
  /-- ENVIRONMENT: what the host does at the coming step boundaries, soonest first; nothing after the list (log 9) -/
  hostIn : List HostEvent
  /-- ENVIRONMENT: what the host's last register read returned (log 11) -/
  hostData : Word
  /-- ENVIRONMENT: what the coming exchanges return, soonest first; `Config.linkReply` after the list (log 8) -/
  linkIn : List LinkReply
  /-- OBSERVER: `TRACE` (00 R8), in the order the engine made the events -/
  trace : List LinkEvent
  deriving DecidableEq, Repr

/-- The reset values of 10 R37, the free values it asks for taken from one draw (log 1, 2, 3). -/
def State.afterReset (params : Params) (draw : Nat) (hostIn : List HostEvent) (hostData : Word)
    (linkIn : List LinkReply) : State :=
  { params := params
    arg := Config.freeBits 32 draw .arg
    buf := []
    resp := Vector.ofFn fun i => Config.freeBits 8 draw (.resp i)
    csd := Vector.ofFn fun i => Config.freeBits 8 draw (.csd i)
    blockCount := Config.freeBits 33 draw .blockCount
    result := 0#8
    busy := false
    done := false
    cs := false
    initialized := false
    stream := .none
    curCmd := 0#6
    r1 := Config.freeBits 8 draw .r1
    dresp := Config.freeBits 8 draw .dresp
    token := Config.freeBits 8 draw .token
    opl := 0#4
    argl := Config.freeBits 32 draw .argl
    phase := .idle
    pollCnt := 0
    roundCnt := 0
    byteCnt := 0
    crc16Acc := 0#16
    txFrame := 0#48
    crcHi := 0#8
    draws := draw + 1
    bufDraw := draw
    csLine := .undriven
    hostIn := hostIn
    hostData := hostData
    linkIn := linkIn
    trace := [] }

/-- The machine right after reset (10 R37, 70 R250), with the reference design's parameters (00 R5), no host access and
no reply of the card listed. -/
def State.reset : State := State.afterReset Params.reference 0 [] 0#32 []

end Sys2Proof.Machine
end

