-- ==== Sys2Proof/Machine/Operands.lean ====
section
/-! DEFINITION. The operand forms: the latched block index, the constant arguments, the frame's bytes, the C_SIZE field
and the block count (30 R62, R73), and the tables that say which operation, step label, argument, required R1 and
failure each command, block and poll of the sequences has. -/

namespace Sys2Proof.Machine

/-- The host code of an operation (30 R80). -/
def Op.code : Op → BitVec 4
  | .init => 0x1#4
  | .getBlocksNumber => 0x2#4
  | .readSingleBlock => 0x3#4
  | .writeSingleBlock => 0x4#4
  | .readBegin => 0x5#4
  | .readData => 0x6#4
  | .readEnd => 0x7#4
  | .writeBegin => 0x8#4
  | .writeData => 0x9#4
  | .writeEnd => 0xA#4
  | .unselect => 0xB#4

/-- The command index (30 R62); ACMD41 is index 41 (30 R63). -/
def Cmd.index : Cmd → BitVec 6
  | .cmd0 => 0#6
  | .cmd8 => 8#6
  | .cmd9 => 9#6
  | .cmd12 => 12#6
  | .cmd17 => 17#6
  | .cmd18 => 18#6
  | .cmd24 => 24#6
  | .cmd25 => 25#6
  | .cmd55 => 55#6
  | .acmd41 => 41#6
  | .cmd58 => 58#6

/-- The argument (30 R62, R73): the block index unchanged for the block commands, a constant for the rest. -/
def Cmd.argument (argl : Word) : Cmd → Word
  | .cmd8 => 0x000001AA#32
  | .acmd41 => 0x40000000#32
  | .cmd17 | .cmd18 | .cmd24 | .cmd25 => argl
  | .cmd0 | .cmd9 | .cmd12 | .cmd55 | .cmd58 => 0x00000000#32

/-- The frame the engine builds for a command (30 R60, R61, 40 R97). -/
def Cmd.frame (argl : Word) (c : Cmd) : Frame :=
  frameWord c.index (c.argument argl) (frameCrc7 c.index (c.argument argl))

/-- Frame byte i, byte 0 sent first (30 R60). -/
def frameByte (f : Frame) (i : Fin 6) : Byte := f.extractLsb' (8 * (5 - i.val)) 8

/-- The operation whose sequence sends the command. -/
def Cmd.op : Cmd → Op
  | .cmd0 | .cmd8 | .cmd55 | .acmd41 | .cmd58 => .init
  | .cmd9 => .getBlocksNumber
  | .cmd17 => .readSingleBlock
  | .cmd24 => .writeSingleBlock
  | .cmd18 => .readBegin
  | .cmd12 => .readEnd
  | .cmd25 => .writeBegin

/-- The step label of the command in its operation's sequence (42 R130, 43 R150, 44 R160, R164, 45 R170, R176, R179). -/
def Cmd.label : Cmd → Nat
  | .cmd0 => 4
  | .cmd8 => 5
  | .cmd55 | .acmd41 => 7
  | .cmd58 => 8
  | .cmd9 | .cmd17 | .cmd24 | .cmd18 | .cmd12 | .cmd25 => 2

/-- The failure of the command's R1 check (60 R221). -/
def Cmd.failure : Cmd → Failure
  | .cmd0 => .initCmd0
  | .cmd8 => .initCmd8R1
  | .cmd55 => .initCmd55
  | .acmd41 => .initAcmd41
  | .cmd58 => .initCmd58
  | .cmd9 => .csdCmd9
  | .cmd17 => .rdCmd17
  | .cmd24 => .wrCmd24
  | .cmd18 => .rdbCmd18
  | .cmd12 => .rdeCmd12
  | .cmd25 => .wrbCmd25

/-- The R1 byte the command's check requires (30 R62); for ACMD41 the byte that ends the loop (42 R135). -/
def Cmd.requiredR1 : Cmd → Byte
  | .cmd0 | .cmd8 | .cmd55 => 0x01#8
  | .cmd9 | .cmd12 | .cmd17 | .cmd18 | .cmd24 | .cmd25 | .acmd41 | .cmd58 => 0x00#8

/-- The step label of a payload read: S6 for R7, S9 for the OCR (42 R130). -/
def Payload.label : Payload → Nat
  | .r7 => 6
  | .ocr => 9

/-- The operation that reads the block. -/
def BlockIn.op : BlockIn → Op
  | .csd => .getBlocksNumber
  | .single => .readSingleBlock
  | .stream => .readData

/-- The step label of `read_block` (43 R150, 44 R160, 45 R173). -/
def BlockIn.label : BlockIn → Nat
  | .csd | .single => 3
  | .stream => 2

/-- The number of data bytes: 16 for the CSD, 512 for a block (40 R101). -/
def BlockIn.size : BlockIn → Nat
  | .csd => Config.csdSize
  | .single | .stream => Config.blockSize

/-- The failure for a token that is not 0xFE (60 R221). -/
def BlockIn.tokenFailure : BlockIn → Failure
  | .csd => .csdToken
  | .single => .rdToken
  | .stream => .rddToken

/-- The failure for a CRC16 that differs (60 R221). -/
def BlockIn.crcFailure : BlockIn → Failure
  | .csd => .crcCsd
  | .single => .crcRd
  | .stream => .crcRdd

/-- The operation that sends the block. -/
def BlockOut.op : BlockOut → Op
  | .single => .writeSingleBlock
  | .stream => .writeData

/-- The step label of `send_block` (44 R164, 45 R182). -/
def BlockOut.label : BlockOut → Nat
  | .single => 3
  | .stream => 2

/-- The start token (30 R68). -/
def BlockOut.token : BlockOut → Byte
  | .single => 0xFE#8
  | .stream => 0xFC#8

/-- The failure of the data-response check (60 R221). -/
def BlockOut.failure : BlockOut → Failure
  | .single => .wrResp
  | .stream => .wrdResp

/-- The wait-not-busy that follows an accepted block (44 R164, 45 R182). -/
def BlockOut.programWait : BlockOut → ProgramWait
  | .single => .afterSingle
  | .stream => .afterStream

/-- The operation the poll stands in. -/
def ProgramWait.op : ProgramWait → Op
  | .afterSingle => .writeSingleBlock
  | .afterStream => .writeData
  | .writeEnd => .writeEnd

/-- The step label of the poll (44 R164, 45 R182, R185). -/
def ProgramWait.label : ProgramWait → Nat
  | .afterSingle => 5
  | .afterStream | .writeEnd => 4

/-- The step label of an operation's `cs_assert()`. UNSELECT makes none. -/
def Op.selectLabel : Op → Nat
  | .init => 3
  | .getBlocksNumber | .readSingleBlock | .writeSingleBlock | .readBegin | .readData | .readEnd | .writeBegin
  | .writeData | .writeEnd | .unselect => 1

/-- The step label of the `cs_deassert()` on an operation's success path. -/
def Op.deselectLabel : Op → Nat
  | .init => 10
  | .getBlocksNumber | .writeSingleBlock => 6
  | .readSingleBlock => 4
  | .readBegin | .readData | .readEnd | .writeBegin => 3
  | .writeData | .writeEnd => 5
  | .unselect => 1

/-- The operation of a position (10 R24); none for IDLE and for a reserved code. -/
def Phase.op : Phase → Option Op
  | .idle => none
  | .initDeselect | .initDummy _ => some .init
  | .select op => some op
  | .cmdWait c | .cmdFrame c _ | .cmdPollR1 c => some c.op
  | .cmdStuff => some .readEnd
  | .payload _ => some .init
  | .tokenWait b | .blockIn b | .blockInCrcHi b | .blockInCrcLo b => some b.op
  | .blockOutToken b | .blockOut b | .blockOutCrcHi b | .blockOutCrcLo b => some b.op
  | .dataResponse b => some b.op
  | .programWait w => some w.op
  | .stopToken | .stopDiscard => some .writeEnd
  | .deselect op | .complete op => some op
  | .illegal => none
  | .failDeselect f | .failComplete f => some f.op

/-- The step label S<n> of a position in its operation's sequence (10 R24); on the failure path, of the check that
failed. -/
def Phase.label : Phase → Nat
  | .idle => 0
  | .initDeselect => 1
  | .initDummy _ => 2
  | .select op => op.selectLabel
  | .cmdWait c | .cmdFrame c _ | .cmdPollR1 c => c.label
  | .cmdStuff => Cmd.cmd12.label
  | .payload p => p.label
  | .tokenWait b | .blockIn b | .blockInCrcHi b | .blockInCrcLo b => b.label
  | .blockOutToken b | .blockOut b | .blockOutCrcHi b | .blockOutCrcLo b => b.label
  | .dataResponse b => b.label + 1
  | .programWait w => w.label
  | .stopToken => 2
  | .stopDiscard => 3
  | .deselect op => op.deselectLabel
  | .complete op => op.deselectLabel + 1
  | .illegal => 1
  | .failDeselect f | .failComplete f => f.label

/-- `C_SIZE = {CSD[7][5:0], CSD[8], CSD[9]}`, 22 bits (30 R72, R73). -/
def cSize (csd : Vector Byte 16) : BitVec 22 := csd[7].extractLsb' 0 6 ++ csd[8] ++ csd[9]

/-- `BLOCK_COUNT = (zext_33(C_SIZE) + 1) << 10` (43 R150, R152). -/
def blockCountOf (csd : Vector Byte 16) : BitVec 33 := ((cSize csd).setWidth 33 + 1#33) <<< 10

/-- A received block's destination byte i (40 R101): CSD for the capacity query; BUF is written by `State.setBuf`. -/
def setCsd (csd : Vector Byte 16) (i : Nat) (b : Byte) : Vector Byte 16 := csd.setIfInBounds i b

/-- `RESP[i] <- b` (40 R99). -/
def setResp (resp : Vector Byte 4) (i : Nat) (b : Byte) : Vector Byte 4 := resp.setIfInBounds i b

end Sys2Proof.Machine
end

