-- ==== Sys2Proof/Machine/Flags.lean ====
section
/-! DEFINITION. The flags, codes and checks: the result codes, the STATUS and LASTRESP words, and every test the
sequences make on a received byte. -/

namespace Sys2Proof.Machine

/-- The code of a failure as a byte (60 R221, the "as byte" column), two's complement of the negative code. -/
def Failure.code : Failure → Byte
  | .initCmd0 => 0xFF#8
  | .initCmd8R1 => 0xFE#8
  | .initCmd8R7 => 0xFD#8
  | .initCmd55 => 0xFC#8
  | .initAcmd41 => 0xFB#8
  | .initCmd58 => 0xFA#8
  | .initOcr => 0xF9#8
  | .csdCmd9 => 0xF8#8
  | .csdToken => 0xF7#8
  | .csdVersion => 0xF6#8
  | .rdCmd17 => 0xF5#8
  | .rdToken => 0xF4#8
  | .wrCmd24 => 0xF3#8
  | .wrResp => 0xF2#8
  | .rdbCmd18 => 0xF1#8
  | .rddToken => 0xF0#8
  | .rdeCmd12 => 0xEF#8
  | .wrbCmd25 => 0xEE#8
  | .wrdResp => 0xED#8
  | .crcCsd => 0xE8#8
  | .crcRd => 0xE7#8
  | .crcRdd => 0xE6#8
  | .timeoutNotBusy => 0xE0#8
  | .timeoutR1 => 0xDF#8
  | .timeoutToken => 0xDE#8
  | .timeoutAcmd41 => 0xDD#8
  | .illegalOp => 0xC0#8

/-- `STREAM` as its 2-bit field (10 R20). -/
def Stream.bits : Stream → BitVec 2
  | .none => 0#2
  | .read => 1#2
  | .write => 2#2

/-- A flag as one bit. -/
def flagBit (b : Bool) : BitVec 1 := if b then 1#1 else 0#1

/-- `STATUS` (10 R29): OPL in 19:16, CUR_CMD in 13:8, STREAM in 5:4, INITIALIZED, CS, DONE, BUSY in 3:0. -/
def statusWord (s : State) : Word :=
  0#12 ++ s.opl ++ 0#2 ++ s.curCmd ++ 0#2 ++ s.stream.bits ++ flagBit s.initialized ++ flagBit s.cs ++ flagBit s.done
    ++ flagBit s.busy

/-- `LASTRESP` (10 R27): TOKEN in 23:16, DRESP in 15:8, R1 in 7:0. -/
def lastRespWord (s : State) : Word := 0#8 ++ s.token ++ s.dresp ++ s.r1

/-- `r == 0xFF`: the exit test of wait-not-busy (40 R94; its polarity is 90 C1, log 21), and "nothing yet" of the token
wait (40 R100). -/
def isIdleByte (r : Byte) : Bool := r == 0xFF#8

/-- `r[7] == 0`: the exit test of the R1 poll (40 R96). -/
def isR1 (r : Byte) : Bool := !r.getLsbD 7

/-- `r == 0xFE`: the start token of a read (40 R100). -/
def isStartToken (r : Byte) : Bool := r == 0xFE#8

/-- `(r & 0x1F) == 0x05`: the accepted data response (30 R70, 40 R104). -/
def isAccepted (r : Byte) : Bool := r &&& 0x1F#8 == 0x05#8

/-- `RESP[3] == 0xAA and RESP[2][0] == 1` (30 R66, 42 R134). -/
def r7Accepted (resp : Vector Byte 4) : Bool := resp[3] == 0xAA#8 && resp[2].getLsbD 0

/-- `(RESP[0] & 0xC0) == 0xC0` (30 R67, 42 R136). -/
def ocrAccepted (resp : Vector Byte 4) : Bool := resp[0] &&& 0xC0#8 == 0xC0#8

/-- `(CSD[0] & 0xC0) == 0x40` (30 R72, 43 R150 S4). -/
def csdVersionAccepted (csd : Vector Byte 16) : Bool := csd[0] &&& 0xC0#8 == 0x40#8

/-- `L != 0 and count == L`: the bound of a poll, tested after the exit test (40 R95, 60 R223). -/
def limitReached (limit count : Nat) : Bool := limit != 0 && count == limit

end Sys2Proof.Machine
end

