-- ==== Sys2Proof/Machine/Ops.lean ====
section
/-! DEFINITION. The named operations over the state: BUF, the link (chip-select and exchange), the start of a command and
of a poll, the completion step, and the failure path, which is how this machine takes an exception (60 R222). -/

namespace Sys2Proof.Machine

/-! ## BUF -/

/-- The value cell `a` holds; none when it has no value. -/
def Memory.read : Memory → Nat → Option Byte
  | [], _ => none
  | (a', b) :: m, a => if a = a' then some b else Memory.read m a

/-- Cell `a` holds `b`; every other cell as before. The addresses stay strictly rising. -/
def Memory.write : Memory → Nat → Byte → Memory
  | [], a, b => [(a, b)]
  | (a', b') :: m, a, b =>
    if a < a' then (a, b) :: (a', b') :: m
    else if a = a' then (a, b) :: m
    else (a', b') :: Memory.write m a b

/-- Addresses strictly rising from `lo`, all below 512. -/
def Memory.wfFrom (lo : Nat) : Memory → Bool
  | [] => true
  | (a, _) :: m => decide (lo ≤ a ∧ a < Config.blockSize) && Memory.wfFrom (a + 1) m

/-- The canonical form: addresses strictly rising and inside BUF. An unlisted cell has no value, so no entry equals what
an unlisted cell reads as. -/
def Memory.wf (m : Memory) : Bool := Memory.wfFrom 0 m

/-- `BUF[i]`, one byte (10 R12). A cell without a value reads as a free value (10 R37, 44 R162; log 3). -/
def State.bufByte (s : State) (i : Nat) : Byte :=
  (Memory.read s.buf i).getD (Config.freeBits 8 s.bufDraw (.buf i))

/-- `BUF[i] <- b`. There are 512 cells (10 R12); a number past them names none. -/
def State.setBuf (s : State) (i : Nat) (b : Byte) : State :=
  if i < Config.blockSize then { s with buf := Memory.write s.buf i b } else s

/-- All 512 cells of BUF become unspecified (44 R162, 93 U2). One draw per failed read, so that later reads of a cell
agree: the model's choice (log 3, log 4). -/
def State.forgetBuf (s : State) : State :=
  { s with buf := [], bufDraw := s.draws, draws := s.draws + 1 }

/-- All 16 cells of CSD become unspecified (43 R151, 93 U2). One draw per failed query, so that later reads of a cell
agree: the model's choice (log 5). -/
def State.forgetCsd (s : State) : State :=
  { s with csd := Vector.ofFn fun i => Config.freeBits 8 s.draws (.csd i), draws := s.draws + 1 }

/-- All 4 cells of RESP become unspecified (93 U2). One draw per failed INIT, so that later reads of a cell agree: the
model's choice (log 6). -/
def State.forgetResp (s : State) : State :=
  { s with resp := Vector.ofFn fun i => Config.freeBits 8 s.draws (.resp i), draws := s.draws + 1 }

/-! ## The link -/

/-- `cs_assert()` (40 R90). -/
def State.csAssert (s : State) : State := { s with cs := true, csLine := .asserted, trace := s.trace ++ [.sel] }

/-- `cs_deassert()` (40 R91). -/
def State.csDeassert (s : State) : State := { s with cs := false, csLine := .deasserted, trace := s.trace ++ [.desel] }

/-- What the environment answers to the byte `t` sent now (20 R46): the next reply listed, else a free value. -/
def State.reply (s : State) (t : Byte) : LinkReply :=
  match s.linkIn with
  | r :: _ => r
  | [] => Config.linkReply s.draws t

/-- That answer is used up. -/
def State.takeReply (s : State) : State :=
  { s with linkIn := s.linkIn.tail, draws := if s.linkIn.isEmpty then s.draws + 1 else s.draws }

/-- The exchange that sent `t` and received `r` has been made (40 R92). -/
def State.exchanged (s : State) (t r : Byte) : State :=
  { s.takeReply with trace := s.trace ++ [.x t r] }

/-- `xchg(t) -> r` (40 R92), then `k r`. While the transport does not return the engine stays where it is (70 R262). -/
def State.exchange (s : State) (t : Byte) (k : Byte → State → State) : State :=
  match s.reply t with
  | .blocked => s.takeReply
  | .byte r => k r (s.exchanged t r)

/-! ## The sequencer's position -/

/-- `PHASE <- p` (10 R24). -/
def State.goto (s : State) (p : Phase) : State := { s with phase := p }

/-- A poll starts at `p`: `POLL_CNT <- 0` (10 R25). -/
def State.startPoll (s : State) (p : Phase) : State := { s with phase := p, pollCnt := 0 }

/-- A payload or a block starts at `p`: `BYTE_CNT <- 0` (10 R25; which step this belongs to is log 12). -/
def State.startBytes (s : State) (p : Phase) : State := { s with phase := p, byteCnt := 0 }

/-- A block starts at `p`: beside BYTE_CNT the running CRC is cleared when `DATA_CRC_ENABLE`; only then does a block
transfer write `CRC16_ACC` (10 R10, 41 R123; log 12). -/
def State.startBlock (s : State) (p : Phase) : State :=
  { s.startBytes p with crc16Acc := if s.params.dataCrcEnable then 0#16 else s.crc16Acc }

/-- The engine builds the command's frame and is about to send its first byte (30 R61, 40 R97). -/
def State.startFrame (s : State) (c : Cmd) : State :=
  { s with phase := .cmdFrame c 0, txFrame := c.frame s.argl }

/-- `command(index, arg)` begins (40 R98): `CUR_CMD <- index`, then the wait-not-busy, which CMD12 skips. -/
def State.startCommand (s : State) (c : Cmd) : State :=
  if c = .cmd12 then { s with curCmd := c.index }.startFrame c
  else { s with curCmd := c.index }.startPoll (.cmdWait c)

/-! ## The failure path and completion -/

/-- `fail E` (60 R222): no further step of the sequence; F1 comes next. -/
def State.raise (s : State) (f : Raised) : State := { s with phase := .failDeselect f }

/-- F1 (60 R222): `cs_deassert()`. -/
def State.failF1 (s : State) (f : Raised) : State := { s.csDeassert with phase := .failComplete f }

/-- The outputs a failed operation leaves unspecified (44 R162, 43 R151, 93 U2): BUF after a read, CSD after the capacity
query, RESP after an INIT whose failing step comes before the R7 payload was read. -/
def State.spoil (s : State) (f : Raised) : State :=
  match f.op with
  | .readSingleBlock | .readData => s.forgetBuf
  | .getBlocksNumber => s.forgetCsd
  | .init => if f.label < Payload.r7.label then s.forgetResp else s
  | .writeSingleBlock | .readBegin | .readEnd | .writeBegin | .writeData | .writeEnd | .unselect => s

/-- The completion step shared by every path: `RESULT`, `BUSY <- 0`, `DONE <- 1`, `PHASE <- IDLE`. -/
def State.finish (s : State) (code : Byte) : State :=
  { s with result := code, busy := false, done := true, phase := .idle }

/-- F2 (60 R222): completion with the code; INIT clears `INITIALIZED` (42 R138). -/
def State.failF2 (s : State) (f : Raised) : State :=
  { s.spoil f with initialized := if f.op = Op.init then false else s.initialized }.finish f.failure.code

/-- The completion step of the success path (42 R137, 43 R150 S7, 44 R160 S5, R164 S7, 45 R170 to R185, 46 R190):
`INITIALIZED` and `STREAM` by the operation, `RESULT <- 0`. -/
def State.succeed (s : State) (op : Op) : State :=
  match op with
  | .init => { s with initialized := true, stream := .none }.finish 0#8
  | .readBegin => { s with stream := .read }.finish 0#8
  | .writeBegin => { s with stream := .write }.finish 0#8
  | .readEnd | .writeEnd => { s with stream := .none }.finish 0#8
  | .getBlocksNumber | .readSingleBlock | .writeSingleBlock | .readData | .writeData | .unselect => s.finish 0#8

/-- S1 of a reserved code (46 R192). -/
def State.completeIllegal (s : State) : State := s.finish Failure.illegalOp.code

/-! ## Issue -/

/-- The first step of an operation's sequence (10 R28): INIT begins with its deselect, UNSELECT is only a deselect, the
others begin with `cs_assert()`. -/
def Op.firstPhase : Op → Phase
  | .init => .initDeselect
  | .unselect => .deselect .unselect
  | op => .select op

/-- The issuing step (10 R28): while BUSY = 0, `OPL`, `ARGL`, `BUSY <- 1`, `DONE <- 0`, `PHASE <-` the first step. While
BUSY = 1 the write is ignored (10 R36). -/
def State.issue (s : State) (code : BitVec 4) (p : Phase) : State :=
  if s.busy then s else { s with opl := code, argl := s.arg, busy := true, done := false, phase := p }

/-! ## Reset -/

/-- The reset event (70 R250, R251): every element takes its reset value, unspecified ones a fresh free value; the
running operation is dropped with no further call; the card and the host are not reached; TRACE starts empty (log 19). -/
def State.resetEvent (s : State) : State :=
  State.afterReset s.params s.draws s.hostIn s.hostData s.linkIn

end Sys2Proof.Machine
end

