-- ==== Sys2Proof/Machine/Sequencer.lean ====
section
/-! DEFINITION. The sequencer: what a position sends, what it does with the byte received, and the steps that make no
exchange (40, 42 to 46). A check that follows an exchange belongs to that exchange's step (92 D25; log 12). -/

namespace Sys2Proof.Machine

/-! ## A byte received, by primitive -/

/-- INIT S2 (42 R131): the received byte is discarded; after `INIT_DUMMY_BYTES` of them, S3. -/
def State.afterDummy (s : State) (sent : Nat) : State :=
  if sent + 1 < s.params.initDummyBytes then s.goto (.initDummy (sent + 1)) else s.goto (.select .init)

/-- One iteration of `wait_not_busy` (40 R94): the exit test, then the limit. -/
def State.afterBusyPoll (s : State) (r : Byte) (ready : State → State) (op : Op) (label : Nat) : State :=
  let s := { s with pollCnt := s.pollCnt + 1 }
  if isIdleByte r then ready s
  else if limitReached s.params.notBusyLimit s.pollCnt then s.raise ⟨.timeoutNotBusy, op, label⟩
  else s

/-- After frame byte i (40 R97, R98): the next byte; after the last, the stuff byte of CMD12 or the R1 poll, and the
frame is gone (30 R61). -/
def State.afterFrameByte (s : State) (c : Cmd) (i : Fin 6) : State :=
  if h : i.val + 1 < 6 then s.goto (.cmdFrame c ⟨i.val + 1, h⟩)
  else if c = .cmd12 then { s with txFrame := 0#48 }.goto .cmdStuff
  else { s with txFrame := 0#48 }.startPoll (.cmdPollR1 c)

/-- ACMD41's R1 (42 R135): the round is counted; 0x00 ends the loop, another value but 0x01 fails, then the limit, then
the next round. -/
def State.afterAcmd41 (s : State) (r : Byte) : State :=
  let s := { s with roundCnt := s.roundCnt + 1 }
  if r = 0x00#8 then s.startCommand .cmd58
  else if r ≠ 0x01#8 then s.raise ⟨.initAcmd41, .init, Cmd.acmd41.label⟩
  else if limitReached s.params.acmd41Limit s.roundCnt then s.raise ⟨.timeoutAcmd41, .init, Cmd.acmd41.label⟩
  else s.startCommand .cmd55

/-- What follows a command whose R1 was the required one (42 R130, 43 R150, 44 R160, R164, 45 R170, R176, R179). -/
def State.afterCommand (s : State) (c : Cmd) : State :=
  match c with
  | .cmd0 => s.startCommand .cmd8
  | .cmd8 => s.startBytes (.payload .r7)
  | .cmd55 => s.startCommand .acmd41
  | .acmd41 => s.startCommand .cmd58
  | .cmd58 => s.startBytes (.payload .ocr)
  | .cmd9 => s.startPoll (.tokenWait .csd)
  | .cmd17 => s.startPoll (.tokenWait .single)
  | .cmd24 => s.goto (.blockOutToken .single)
  | .cmd18 | .cmd12 | .cmd25 => s.goto (.deselect c.op)

/-- The caller's check of the R1 byte a command returned (40 R98): ACMD41 has its own, every other command requires one
value and fails with its own code. -/
def State.checkR1 (s : State) (c : Cmd) (r : Byte) : State :=
  if c = .acmd41 then s.afterAcmd41 r
  else if r = c.requiredR1 then s.afterCommand c
  else s.raise ⟨c.failure, c.op, c.label⟩

/-- One iteration of `poll_r1` (40 R96): bit 7 clear ends it, `R1 <- r`; else the limit. -/
def State.afterR1Poll (s : State) (c : Cmd) (r : Byte) : State :=
  let s := { s with pollCnt := s.pollCnt + 1 }
  if isR1 r then { s with r1 := r }.checkR1 c r
  else if limitReached s.params.r1Limit s.pollCnt then s.raise ⟨.timeoutR1, c.op, c.label⟩
  else s

/-- After the fourth payload byte: the R7 check, then the ACMD41 loop from round 0; or the OCR check, then the deselect
(42 R130 S6, S7, S9). -/
def State.checkPayload (s : State) (p : Payload) : State :=
  match p with
  | .r7 =>
    if r7Accepted s.resp then { s with roundCnt := 0 }.startCommand .cmd55
    else s.raise ⟨.initCmd8R7, .init, Payload.r7.label⟩
  | .ocr => if ocrAccepted s.resp then s.goto (.deselect .init) else s.raise ⟨.initOcr, .init, Payload.ocr.label⟩

/-- One byte of `read_payload4` (40 R99). -/
def State.afterPayloadByte (s : State) (p : Payload) (r : Byte) : State :=
  let s := { s with resp := setResp s.resp s.byteCnt r, byteCnt := s.byteCnt + 1 }
  if s.byteCnt < 4 then s else s.checkPayload p

/-- One iteration of `wait_token` (40 R100): 0xFF is skipped, the limit counted; the first other byte is `TOKEN` and must
be 0xFE. -/
def State.afterTokenPoll (s : State) (b : BlockIn) (r : Byte) : State :=
  let s := { s with pollCnt := s.pollCnt + 1 }
  if isIdleByte r then
    if limitReached s.params.tokenLimit s.pollCnt then s.raise ⟨.timeoutToken, b.op, b.label⟩ else s
  else if isStartToken r then { s with token := r }.startBlock (.blockIn b)
  else { s with token := r }.raise ⟨b.tokenFailure, b.op, b.label⟩

/-- `CRC16_ACC` takes a data byte in, when `DATA_CRC_ENABLE` (10 R25, 41 R123). -/
def State.accumulate (s : State) (b : Byte) : State :=
  if s.params.dataCrcEnable then { s with crc16Acc := crc16Byte s.crc16Acc b } else s

/-- `dest[BYTE_CNT] <- r` of `read_bytes` (40 R101). -/
def State.storeByte (s : State) (b : BlockIn) (r : Byte) : State :=
  match b with
  | .csd => { s with csd := setCsd s.csd s.byteCnt r }
  | .single | .stream => s.setBuf s.byteCnt r

/-- One data byte of `read_bytes` (40 R101). -/
def State.afterDataIn (s : State) (b : BlockIn) (r : Byte) : State :=
  let s := (s.storeByte b r).accumulate r
  let s := { s with byteCnt := s.byteCnt + 1 }
  if s.byteCnt < b.size then s else s.goto (.blockInCrcHi b)

/-- The first CRC byte (40 R101). -/
def State.afterCrcHiIn (s : State) (b : BlockIn) (r : Byte) : State :=
  { s with crcHi := r, byteCnt := s.byteCnt + 1 }.goto (.blockInCrcLo b)

/-- A block has come in: the capacity query checks the version and computes the count (43 R150 S4, S5); a data block is
done (44 R160 S4, 45 R173 S3). -/
def State.blockReceived (s : State) (b : BlockIn) : State :=
  match b with
  | .csd =>
    if csdVersionAccepted s.csd then { s with blockCount := blockCountOf s.csd }.goto (.deselect .getBlocksNumber)
    else s.raise ⟨.csdVersion, .getBlocksNumber, 4⟩
  | .single | .stream => s.goto (.deselect b.op)

/-- The second CRC byte (40 R101, 41 R125): both have been read; with `DATA_CRC_ENABLE` the CRC16 of the data must be
`{c_hi, c_lo}`. -/
def State.afterCrcLoIn (s : State) (b : BlockIn) (r : Byte) : State :=
  let wrong : Bool := s.params.dataCrcEnable && s.crc16Acc != s.crcHi ++ r
  let s := { s with crcHi := 0#8 }
  if wrong then s.raise ⟨b.crcFailure, b.op, b.label⟩ else s.blockReceived b

/-- One data byte of `send_block` has gone out (40 R103); what came back is discarded (40 R93). -/
def State.afterDataOut (s : State) (b : BlockOut) : State :=
  let s := s.accumulate (s.bufByte s.byteCnt)
  let s := { s with byteCnt := s.byteCnt + 1 }
  if s.byteCnt < Config.blockSize then s else s.goto (.blockOutCrcHi b)

/-- `c` of 40 R103: the CRC16 of the block, or 0xFFFF. -/
def State.crcOut (s : State) : BitVec 16 := if s.params.dataCrcEnable then s.crc16Acc else 0xFFFF#16

/-- The data response (40 R104): `DRESP <- r`, all 8 bits; accepted, the program-time wait; else the operation's code. -/
def State.afterDataResponse (s : State) (b : BlockOut) (r : Byte) : State :=
  let s := { s with dresp := r }
  if isAccepted r then s.startPoll (.programWait b.programWait) else s.raise ⟨b.failure, b.op, b.label + 1⟩

/-! ## The whole sequencer -/

/-- The byte a position is about to send; none where its step is no exchange. Receive-only exchanges send 0xFF
(30 R71). -/
def State.sends (s : State) : Option Byte :=
  match s.phase with
  | .initDummy _ | .cmdWait _ | .cmdStuff | .cmdPollR1 _ | .payload _ | .tokenWait _ | .blockIn _ | .blockInCrcHi _
  | .blockInCrcLo _ | .dataResponse _ | .programWait _ | .stopDiscard => some 0xFF#8
  | .cmdFrame _ i => some (frameByte s.txFrame i)
  | .blockOutToken b => some b.token
  | .blockOut _ => some (s.bufByte s.byteCnt)
  | .blockOutCrcHi _ => some (s.crcOut.extractLsb' 8 8)
  | .blockOutCrcLo _ => some (s.crcOut.extractLsb' 0 8)
  | .stopToken => some 0xFD#8
  | .idle | .initDeselect | .select _ | .deselect _ | .complete _ | .illegal | .failDeselect _ | .failComplete _ => none

/-- What the position does with the byte an exchange returned. A position that makes no exchange keeps everything. -/
def State.received (r : Byte) (s : State) : State :=
  match s.phase with
  | .initDummy sent => s.afterDummy sent
  | .cmdWait c => s.afterBusyPoll r (fun s => s.startFrame c) c.op c.label
  | .cmdFrame c i => s.afterFrameByte c i
  | .cmdStuff => s.startPoll (.cmdPollR1 .cmd12)
  | .cmdPollR1 c => s.afterR1Poll c r
  | .payload p => s.afterPayloadByte p r
  | .tokenWait b => s.afterTokenPoll b r
  | .blockIn b => s.afterDataIn b r
  | .blockInCrcHi b => s.afterCrcHiIn b r
  | .blockInCrcLo b => s.afterCrcLoIn b r
  | .blockOutToken b => s.startBlock (.blockOut b)
  | .blockOut b => s.afterDataOut b
  | .blockOutCrcHi b => { s with byteCnt := s.byteCnt + 1 }.goto (.blockOutCrcLo b)
  | .blockOutCrcLo b => s.goto (.dataResponse b)
  | .dataResponse b => s.afterDataResponse b r
  | .programWait w => s.afterBusyPoll r (fun s => s.goto (.deselect w.op)) w.op w.label
  | .stopToken => s.goto .stopDiscard
  | .stopDiscard => s.startPoll (.programWait .writeEnd)
  | .idle | .initDeselect | .select _ | .deselect _ | .complete _ | .illegal | .failDeselect _ | .failComplete _ => s

/-- What follows the `cs_assert()` of an operation. -/
def State.afterSelect (s : State) (op : Op) : State :=
  match op with
  | .init => s.startCommand .cmd0
  | .getBlocksNumber => s.startCommand .cmd9
  | .readSingleBlock => s.startCommand .cmd17
  | .writeSingleBlock => s.startCommand .cmd24
  | .readBegin => s.startCommand .cmd18
  | .readData => s.startPoll (.tokenWait .stream)
  | .readEnd => s.startCommand .cmd12
  | .writeBegin => s.startCommand .cmd25
  | .writeData => s.goto (.blockOutToken .stream)
  | .writeEnd => s.goto .stopToken
  | .unselect => s.goto (.deselect .unselect)

/-- INIT S1 done: S2, or S3 where there is no dummy byte to send (log 14). -/
def State.afterInitDeselect (s : State) : State :=
  if s.params.initDummyBytes = 0 then s.goto (.select .init) else s.goto (.initDummy 0)

/-- The step of a position that makes no exchange: a Chip-Select call or a completion. IDLE does nothing. -/
def State.callStep (s : State) : State :=
  match s.phase with
  | .initDeselect => s.csDeassert.afterInitDeselect
  | .select op => s.csAssert.afterSelect op
  | .deselect op => s.csDeassert.goto (.complete op)
  | .complete op => s.succeed op
  | .illegal => s.completeIllegal
  | .failDeselect f => s.failF1 f
  | .failComplete f => s.failF2 f
  | .idle | .initDummy _ | .cmdWait _ | .cmdFrame _ _ | .cmdStuff | .cmdPollR1 _ | .payload _ | .tokenWait _ | .blockIn _
  | .blockInCrcHi _ | .blockInCrcLo _ | .blockOutToken _ | .blockOut _ | .blockOutCrcHi _ | .blockOutCrcLo _
  | .dataResponse _ | .programWait _ | .stopToken | .stopDiscard => s

/-- The engine's step at any position: its exchange, or its call. -/
def State.sequencerStep (s : State) : State :=
  match s.sends with
  | some t => s.exchange t State.received
  | none => s.callStep

end Sys2Proof.Machine
end

