-- ==== Sys2Proof/Machine/Frames.lean ====
section
/-! DEFINITION. The meanings of the eleven command frames (30 R62). A frame is six exchanges (40 R97), and one exchange
is one step (40 R92), so running a frame is putting it in transmission and making its first exchange; the sequencer's
next steps make the other five, and then the stuff byte or the R1 poll (log 16). -/

namespace Sys2Proof.Machine

/-- The frame `f` of command `c` goes out: its first byte is exchanged, what comes back is discarded (40 R93), the other
five are to follow. -/
def State.sendFrame (s : State) (c : Cmd) (f : Frame) : State :=
  { s with phase := .cmdFrame c 0, txFrame := f }.exchange (frameByte f 0) fun _ s => s.afterFrameByte c 0

/-- CMD0, GO_IDLE_STATE (42 R132). -/
def execCmd0 (s : State) : Host.Outcome State Fault Refusal := .next (s.sendFrame .cmd0 0x400000000095#48)

/-- CMD8, SEND_IF_COND (42 R133). -/
def execCmd8 (s : State) : Host.Outcome State Fault Refusal := .next (s.sendFrame .cmd8 0x48000001AA87#48)

/-- CMD9, SEND_CSD (43 R150). -/
def execCmd9 (s : State) : Host.Outcome State Fault Refusal := .next (s.sendFrame .cmd9 0x4900000000AF#48)

/-- CMD12, STOP_TRANSMISSION (45 R176). -/
def execCmd12 (s : State) : Host.Outcome State Fault Refusal := .next (s.sendFrame .cmd12 0x4C0000000061#48)

/-- CMD55, APP_CMD (42 R135). -/
def execCmd55 (s : State) : Host.Outcome State Fault Refusal := .next (s.sendFrame .cmd55 0x770000000065#48)

/-- ACMD41 (42 R135). -/
def execAcmd41 (s : State) : Host.Outcome State Fault Refusal := .next (s.sendFrame .acmd41 0x694000000077#48)

/-- CMD58, READ_OCR (42 R136). -/
def execCmd58 (s : State) : Host.Outcome State Fault Refusal := .next (s.sendFrame .cmd58 0x7A00000000FD#48)

/-- CMD17, read one block (44 R160). -/
def execCmd17 (block : Word) (crc : BitVec 7) (s : State) : Host.Outcome State Fault Refusal :=
  .next (s.sendFrame .cmd17 (frameWord 17#6 block crc))

/-- CMD18, READ_MULTIPLE_BLOCK (45 R170). -/
def execCmd18 (block : Word) (crc : BitVec 7) (s : State) : Host.Outcome State Fault Refusal :=
  .next (s.sendFrame .cmd18 (frameWord 18#6 block crc))

/-- CMD24, write one block (44 R164). -/
def execCmd24 (block : Word) (crc : BitVec 7) (s : State) : Host.Outcome State Fault Refusal :=
  .next (s.sendFrame .cmd24 (frameWord 24#6 block crc))

/-- CMD25, WRITE_MULTIPLE_BLOCK (45 R179). -/
def execCmd25 (block : Word) (crc : BitVec 7) (s : State) : Host.Outcome State Fault Refusal :=
  .next (s.sendFrame .cmd25 (frameWord 25#6 block crc))

end Sys2Proof.Machine
end

