-- ==== Sys2Proof/Machine/HostPort.lean ====
section
/-! DEFINITION. The host register file (10 R27 to R29, R36): reads and writes by register number. A write to `CTRL` is an
instruction and is not here. -/

namespace Sys2Proof.Machine

/-- The host's registers (10 R27). -/
inductive HostReg where
  | ctrl | arg | status | result | blockCountLo | blockCountHi | lastResp
  | resp (i : Fin 4) | csd (i : Fin 16) | buf (i : Nat)
  | reserved
  deriving DecidableEq, Repr

/-- The register a number names; all numbers not in the table of 10 R27 are reserved. -/
def hostReg (n : Nat) : HostReg :=
  if n = 0 then .ctrl
  else if n = 1 then .arg
  else if n = 2 then .status
  else if n = 3 then .result
  else if n = 4 then .blockCountLo
  else if n = 5 then .blockCountHi
  else if n = 6 then .lastResp
  else if h : 8 ≤ n ∧ n < 12 then .resp ⟨n - 8, by omega⟩
  else if h : 16 ≤ n ∧ n < 32 then .csd ⟨n - 16, by omega⟩
  else if 512 ≤ n ∧ n < 1024 then .buf (n - 512)
  else .reserved

/-- What a register holds, as the host reads it (10 R27). -/
def State.regValue (s : State) : HostReg → Word
  | .ctrl | .reserved => 0#32
  | .arg => s.arg
  | .status => statusWord s
  | .result => s.result.signExtend 32
  | .blockCountLo => s.blockCount.extractLsb' 0 32
  | .blockCountHi => 0#31 ++ s.blockCount.extractLsb' 32 1
  | .lastResp => lastRespWord s
  | .resp i => s.resp[i].setWidth 32
  | .csd i => s.csd[i].setWidth 32
  | .buf i => (s.bufByte i).setWidth 32

/-- The registers whose reads are unspecified while BUSY = 1 (10 R36). -/
def HostReg.heldWhileBusy : HostReg → Bool
  | .result | .blockCountLo | .blockCountHi | .lastResp | .resp _ | .csd _ | .buf _ => true
  | .ctrl | .arg | .status | .reserved => false

/-- A host read of register `n`. While BUSY = 1 a result register gives a free value (10 R36, 93 U7; log 10). -/
def State.hostRead (s : State) (n : Nat) : State :=
  if s.busy && (hostReg n).heldWhileBusy then
    { s with hostData := Config.freeBits 32 s.draws (.busyRead n), draws := s.draws + 1 }
  else { s with hostData := s.regValue (hostReg n) }

/-- A host write of `v` to a register other than `CTRL`. Ignored while BUSY = 1 (10 R36); read-only and reserved numbers
ignore it (10 R27); BUF takes bits 7:0. -/
def State.hostWrite (s : State) (n : Nat) (v : Word) : State :=
  if s.busy then s
  else match hostReg n with
    | .arg => { s with arg := v }
    | .buf i => s.setBuf i (v.extractLsb' 0 8)
    | .ctrl | .status | .result | .blockCountLo | .blockCountHi | .lastResp | .resp _ | .csd _ | .reserved => s

/-- Whether the host does nothing at this step boundary, so that the engine makes its step. -/
def State.engineMoves (s : State) : Bool :=
  match s.hostIn with
  | [] | .wait :: _ => true
  | _ => false

end Sys2Proof.Machine
end

