-- ==== Sys2Proof/Machine/HostOps.lean ====
section
/-! DEFINITION. The meanings of the sixteen host codes: each is the issuing step of its operation (10 R28). What the
operation then does, step by step, is the sequencer's (Machine/Sequencer.lean), which the engine's next steps run. -/

namespace Sys2Proof.Machine

/-- INIT, code 0x1 (42 R130). -/
def execInit (s : State) : Host.Outcome State Fault Refusal := .next (s.issue Op.init.code Op.init.firstPhase)

/-- GET_BLOCKS_NUMBER, code 0x2 (43 R150). -/
def execGetBlocksNumber (s : State) : Host.Outcome State Fault Refusal :=
  .next (s.issue Op.getBlocksNumber.code Op.getBlocksNumber.firstPhase)

/-- READ_SINGLE_BLOCK, code 0x3 (44 R160). -/
def execReadSingleBlock (s : State) : Host.Outcome State Fault Refusal :=
  .next (s.issue Op.readSingleBlock.code Op.readSingleBlock.firstPhase)

/-- WRITE_SINGLE_BLOCK, code 0x4 (44 R164). -/
def execWriteSingleBlock (s : State) : Host.Outcome State Fault Refusal :=
  .next (s.issue Op.writeSingleBlock.code Op.writeSingleBlock.firstPhase)

/-- READ_BEGIN, code 0x5 (45 R170). -/
def execReadBegin (s : State) : Host.Outcome State Fault Refusal :=
  .next (s.issue Op.readBegin.code Op.readBegin.firstPhase)

/-- READ_DATA, code 0x6 (45 R173). -/
def execReadData (s : State) : Host.Outcome State Fault Refusal :=
  .next (s.issue Op.readData.code Op.readData.firstPhase)

/-- READ_END, code 0x7 (45 R176). -/
def execReadEnd (s : State) : Host.Outcome State Fault Refusal :=
  .next (s.issue Op.readEnd.code Op.readEnd.firstPhase)

/-- WRITE_BEGIN, code 0x8 (45 R179). -/
def execWriteBegin (s : State) : Host.Outcome State Fault Refusal :=
  .next (s.issue Op.writeBegin.code Op.writeBegin.firstPhase)

/-- WRITE_DATA, code 0x9 (45 R182). -/
def execWriteData (s : State) : Host.Outcome State Fault Refusal :=
  .next (s.issue Op.writeData.code Op.writeData.firstPhase)

/-- WRITE_END, code 0xA (45 R185). -/
def execWriteEnd (s : State) : Host.Outcome State Fault Refusal :=
  .next (s.issue Op.writeEnd.code Op.writeEnd.firstPhase)

/-- UNSELECT, code 0xB (46 R190). -/
def execUnselect (s : State) : Host.Outcome State Fault Refusal :=
  .next (s.issue Op.unselect.code Op.unselect.firstPhase)

/-- Reserved code 0x0 (30 R81, 46 R192). -/
def execReserved0 (s : State) : Host.Outcome State Fault Refusal := .next (s.issue 0x0#4 .illegal)

/-- Reserved code 0xC (30 R81, 46 R192). -/
def execReservedC (s : State) : Host.Outcome State Fault Refusal := .next (s.issue 0xC#4 .illegal)

/-- Reserved code 0xD (30 R81, 46 R192). -/
def execReservedD (s : State) : Host.Outcome State Fault Refusal := .next (s.issue 0xD#4 .illegal)

/-- Reserved code 0xE (30 R81, 46 R192). -/
def execReservedE (s : State) : Host.Outcome State Fault Refusal := .next (s.issue 0xE#4 .illegal)

/-- Reserved code 0xF (30 R81, 46 R192). -/
def execReservedF (s : State) : Host.Outcome State Fault Refusal := .next (s.issue 0xF#4 .illegal)

end Sys2Proof.Machine
end

