-- ==== Sys2Proof/Machine/LinkBytes.lean ====
section
/-! DEFINITION. The meanings of the single-byte rows: the tokens and the filler the engine sends, and the bytes it
recognises in an exchange that returned them (30 R64, R68, R70, R71). Each is one exchange (40 R92; log 16). -/

namespace Sys2Proof.Machine

/-- 0xFE from the card (40 R100): the exchange `FF>FE`, and what the position does with that byte (at a token wait,
`TOKEN <- 0xFE` and the data bytes come next). -/
def execTokenStartBlockRead (s : State) : Host.Outcome State Fault Refusal :=
  .next (State.received 0xFE#8 (s.exchanged 0xFF#8 0xFE#8))

/-- 0xFE to the card (44 R164): opens the block of WRITE_SINGLE_BLOCK. -/
def execTokenStartBlockWriteSingle (s : State) : Host.Outcome State Fault Refusal :=
  .next (s.exchange BlockOut.single.token fun _ s => s.startBlock (.blockOut .single))

/-- 0xFC to the card (45 R182): opens the block of a WRITE_DATA. -/
def execTokenStartBlockWriteMulti (s : State) : Host.Outcome State Fault Refusal :=
  .next (s.exchange BlockOut.stream.token fun _ s => s.startBlock (.blockOut .stream))

/-- 0xFD to the card (45 R185): the stop-transfer token of WRITE_END; one discarded byte comes next. -/
def execTokenStopTran (s : State) : Host.Outcome State Fault Refusal :=
  .next (s.exchange 0xFD#8 fun _ s => s.goto .stopDiscard)

/-- An accepted data response (40 R104): the exchange that returned it, and what the position does with that byte (at the
data-response read, `DRESP <- r` and the program-time wait comes next). -/
def execDataResponseAccepted (ignored : BitVec 3) (s : State) : Host.Outcome State Fault Refusal :=
  .next (State.received (ignored ++ 0b00101#5) (s.exchanged 0xFF#8 (ignored ++ 0b00101#5)))

/-- An R1 byte (40 R96): the exchange that returned it, and what the position does with that byte (at an R1 poll, `R1 <-
r` and the caller's check). -/
def execR1 (flags : BitVec 7) (s : State) : Host.Outcome State Fault Refusal :=
  .next (State.received (0#1 ++ flags) (s.exchanged 0xFF#8 (0#1 ++ flags)))

/-- The filler 0xFF (30 R71): a receive-only exchange, and what the position does with the byte that comes back. -/
def execFiller (s : State) : Host.Outcome State Fault Refusal := .next (s.exchange 0xFF#8 State.received)

end Sys2Proof.Machine
end

