-- ==== Sys2Proof/Machine/Dispatch.lean ====
section
/-! DEFINITION. What each instruction does: one arm per row of spec/opcode_table.json. -/

namespace Sys2Proof.Machine

def exec (i : Instr) (s : State) : Host.Outcome State Fault Refusal :=
  match i with
  | .init => Sys2Proof.Machine.execInit s
  | .getBlocksNumber => Sys2Proof.Machine.execGetBlocksNumber s
  | .readSingleBlock => Sys2Proof.Machine.execReadSingleBlock s
  | .writeSingleBlock => Sys2Proof.Machine.execWriteSingleBlock s
  | .readBegin => Sys2Proof.Machine.execReadBegin s
  | .readData => Sys2Proof.Machine.execReadData s
  | .readEnd => Sys2Proof.Machine.execReadEnd s
  | .writeBegin => Sys2Proof.Machine.execWriteBegin s
  | .writeData => Sys2Proof.Machine.execWriteData s
  | .writeEnd => Sys2Proof.Machine.execWriteEnd s
  | .unselect => Sys2Proof.Machine.execUnselect s
  | .reserved0 => Sys2Proof.Machine.execReserved0 s
  | .reservedC => Sys2Proof.Machine.execReservedC s
  | .reservedD => Sys2Proof.Machine.execReservedD s
  | .reservedE => Sys2Proof.Machine.execReservedE s
  | .reservedF => Sys2Proof.Machine.execReservedF s
  | .cmd0 => Sys2Proof.Machine.execCmd0 s
  | .cmd8 => Sys2Proof.Machine.execCmd8 s
  | .cmd9 => Sys2Proof.Machine.execCmd9 s
  | .cmd12 => Sys2Proof.Machine.execCmd12 s
  | .cmd55 => Sys2Proof.Machine.execCmd55 s
  | .acmd41 => Sys2Proof.Machine.execAcmd41 s
  | .cmd58 => Sys2Proof.Machine.execCmd58 s
  | .cmd17 block crc => Sys2Proof.Machine.execCmd17 block crc s
  | .cmd18 block crc => Sys2Proof.Machine.execCmd18 block crc s
  | .cmd24 block crc => Sys2Proof.Machine.execCmd24 block crc s
  | .cmd25 block crc => Sys2Proof.Machine.execCmd25 block crc s
  | .tokenStartBlockRead => Sys2Proof.Machine.execTokenStartBlockRead s
  | .tokenStartBlockWriteSingle => Sys2Proof.Machine.execTokenStartBlockWriteSingle s
  | .tokenStartBlockWriteMulti => Sys2Proof.Machine.execTokenStartBlockWriteMulti s
  | .tokenStopTran => Sys2Proof.Machine.execTokenStopTran s
  | .dataResponseAccepted ignored => Sys2Proof.Machine.execDataResponseAccepted ignored s
  | .r1 flags => Sys2Proof.Machine.execR1 flags s
  | .filler => Sys2Proof.Machine.execFiller s

end Sys2Proof.Machine
end

