-- ==== Sys2Proof/Machine/Fetch.lean ====
section
/-! DEFINITION. Fetching: which word a step decodes, and how a word is placed there. The engine fetches nothing from
memory (20 R50): a host step decodes the value written to `CTRL`; an engine step decodes the frame, token or filler it
is about to send, or, where it waits for an R1, a read token or a data response, the byte that comes back (30 R82). -/

namespace Sys2Proof.Machine

/-- What an engine step runs. -/
inductive Fetched where
  /-- a row of the table -/
  | instr (i : Instr)
  /-- a step with no row of its own: a Chip-Select call, a completion, a later frame byte, a data or CRC byte -/
  | bare
  /-- the frame register holds no frame of 30 R62 (log 22) -/
  | badFrame
  deriving DecidableEq, Repr

/-- The row a received byte is, where the sequence looks for one; a byte it does not find is a filler exchange whose byte
the position handles (not yet an R1, a skipped 0xFF, a wrong token, a rejection), and so is a transport that has not
returned. -/
def fetchReceived (reply : LinkReply) (code : Byte → Code) : Fetched :=
  match reply with
  | .blocked => .instr .filler
  | .byte r => match decode (code r) with
    | .ok i => .instr i
    | .error _ => .instr .filler

/-- The frame about to be sent, as a row. -/
def fetchFrame (f : Frame) : Fetched :=
  match decode (.frame f) with
  | .ok i => .instr i
  | .error _ => .badFrame

/-- A token or filler about to be sent, as a row. -/
def fetchSent (t : Byte) : Fetched :=
  match decode (.sent t) with
  | .ok i => .instr i
  | .error _ => .bare

/-- What the engine's step at this position runs. -/
def State.fetch (s : State) : Fetched :=
  match s.phase with
  | .cmdFrame _ i => if i = 0 then fetchFrame s.txFrame else .bare
  | .blockOutToken b => fetchSent b.token
  | .stopToken => fetchSent 0xFD#8
  | .cmdPollR1 _ => fetchReceived (s.reply 0xFF#8) .r1Poll
  | .tokenWait _ => fetchReceived (s.reply 0xFF#8) .tokenWait
  | .dataResponse _ => fetchReceived (s.reply 0xFF#8) .dataResponse
  | .initDummy _ | .cmdWait _ | .cmdStuff | .payload _ | .blockIn _ | .blockInCrcHi _ | .blockInCrcLo _ | .programWait _
  | .stopDiscard => fetchSent 0xFF#8
  | .blockOutCrcHi _ | .blockOutCrcLo _ => if s.params.dataCrcEnable then .bare else fetchSent 0xFF#8
  | .blockOut _ => .bare
  | .idle | .initDeselect | .select _ | .deselect _ | .complete _ | .illegal | .failDeselect _ | .failComplete _ => .bare

/-- The engine is running `op` and stands at `p`; at the coming step boundary the host does nothing. -/
def State.standAt (s : State) (op : Op) (p : Phase) : State :=
  { s with phase := p, opl := op.code, busy := true, done := false, hostIn := .wait :: s.hostIn }

/-- Where a frame stands before it is sent: at byte 0 of the command with its index. -/
def frameCommand (f : Frame) : Cmd :=
  match (f.extractLsb' 40 6).toNat with
  | 8 => .cmd8
  | 9 => .cmd9
  | 12 => .cmd12
  | 17 => .cmd17
  | 18 => .cmd18
  | 24 => .cmd24
  | 25 => .cmd25
  | 41 => .acmd41
  | 55 => .cmd55
  | 58 => .cmd58
  | _ => .cmd0

/-- `s` with the word placed where the next step decodes it (log 18): a `CTRL` value as the host's next write to an idle
engine; a frame in the frame register at its command; a sent token at its position, the filler at INIT's dummy bytes; a
received byte as the card's next reply to CMD0's R1 poll, to READ_SINGLE_BLOCK's token wait, or to WRITE_SINGLE_BLOCK's
data-response read. -/
def State.place (s : State) : Code → State
  | .ctrl v => { s with phase := .idle, busy := false, hostIn := .write 0 v :: s.hostIn }
  | .frame f =>
    { s with txFrame := f, curCmd := (frameCommand f).index }.standAt (frameCommand f).op (.cmdFrame (frameCommand f) 0)
  | .sent t =>
    if t = 0xFE#8 then s.standAt .writeSingleBlock (.blockOutToken .single)
    else if t = 0xFC#8 then s.standAt .writeData (.blockOutToken .stream)
    else if t = 0xFD#8 then s.standAt .writeEnd .stopToken
    else s.standAt .init (.initDummy 0)
  | .r1Poll r => { s with linkIn := .byte r :: s.linkIn }.standAt .init (.cmdPollR1 .cmd0)
  | .tokenWait r => { s with linkIn := .byte r :: s.linkIn }.standAt .readSingleBlock (.tokenWait .single)
  | .dataResponse r => { s with linkIn := .byte r :: s.linkIn }.standAt .writeSingleBlock (.dataResponse .single)

end Sys2Proof.Machine
end

