-- ==== Sys2Proof/Machine/Step.lean ====
section
/-! DEFINITION. One step of the machine: what the host does at this boundary, or, when it does nothing, the engine's
step. -/

namespace Sys2Proof.Machine

/-- The engine makes its step (10 R24): the row it runs, or a step with no row. While IDLE it does nothing (60 R246). -/
def engineStep (s : State) : Host.Outcome State Fault Refusal :=
  match s.fetch with
  | .instr i => exec i s
  | .bare => .next s.sequencerStep
  | .badFrame => .fault .badFrame

/-- A host register write: to `CTRL` it runs the operation it decodes to (10 R28), which ignores it while BUSY = 1
(10 R36). -/
def hostWriteStep (n : Nat) (v : Word) (s : State) : Host.Outcome State Fault Refusal :=
  match hostReg n, decode (.ctrl v) with
  | .ctrl, .ok i => exec i s
  | _, _ => .next (s.hostWrite n v)

/-- One step. -/
def step (s : State) : Host.Outcome State Fault Refusal :=
  match s.hostIn with
  | [] => engineStep s
  | .wait :: rest => engineStep { s with hostIn := rest }
  | .read n :: rest => .next ({ s with hostIn := rest }.hostRead n)
  | .write n v :: rest => hostWriteStep n v { s with hostIn := rest }
  | .reset :: rest => .next { s with hostIn := rest }.resetEvent

/-- `s` with the table word placed where the next step decodes it; a word that decodes to no row is placed nowhere. -/
def State.withFetchWord (s : State) (nbits w : Nat) : State :=
  match tableCode nbits w with
  | some c => s.place c
  | none => s

end Sys2Proof.Machine
end

