-- ==== Sys2Proof/Machine/DiskAdapter.lean ====
section
/-! DEFINITION. The Disk-I/O Adapter of 48: a host of the engine, not part of it, whose five calls expand to register
accesses (30 R83, 48 R200 to R205). It posts host events to the engine and reads what its register reads returned
(log 24). `step` does not use this file. -/

namespace Sys2Proof.Machine

/-- The symbolic statuses of 48 R200. -/
inductive DiskStatus where
  | ok | error | notInitialized | badParameter
  deriving DecidableEq, Repr

/-- The ioctl commands of 48 R205; `other` is any command that is none of the three. -/
inductive DiskQuery where
  | sectorCount | sectorSize | eraseBlockSize | other
  deriving DecidableEq, Repr

/-- The five calls. A write's `data` is the host's buffer of 512 × count bytes. -/
inductive DiskCall where
  | diskInit
  | diskStatus
  | diskRead (sector : Word) (count : Nat)
  | diskWrite (sector : Word) (count : Nat) (data : List Byte)
  | diskIoctl (q : DiskQuery)
  deriving DecidableEq, Repr

/-- Where the adapter stands in a call. -/
inductive DiskPos where
  | idle
  /-- about to start sector k (or the whole call, which has no sectors) -/
  | start
  /-- `STATUS` has been read to see DONE -/
  | polled
  /-- `RESULT` has been read -/
  | result
  /-- `BUF[i]` has been read -/
  | drained (i : Nat)
  /-- `STATUS` has been read for INITIALIZED -/
  | statusRead
  /-- `BLOCK_COUNT_LO` has been read -/
  | countLo
  /-- `BLOCK_COUNT_HI` has been read -/
  | countHi
  deriving DecidableEq, Repr

/-- The adapter's state. -/
structure Disk where
  call : DiskCall
  pos : DiskPos
  /-- the sector of the call in progress, from 0 -/
  k : Nat
  /-- the status the last call returned -/
  status : Option DiskStatus
  /-- what a read has put in the caller's buffer, in order -/
  buffer : List Byte
  /-- the width of the sector count an ioctl returns, in bits: a parameter of the system (93 U16), 33 where nothing is to
  be lost (48 R205, 43 R152) -/
  countWidth : Nat
  /-- `BLOCK_COUNT_LO` as read, until `BLOCK_COUNT_HI` has been -/
  countLo : Word
  /-- what an ioctl has put in the caller's buffer (48 R205) -/
  value : Option Nat
  deriving DecidableEq, Repr

namespace Disk

/-- A call begins, in a system that returns sector counts of `countWidth` bits. -/
def begin (countWidth : Nat) (c : DiskCall) : Disk :=
  { call := c, pos := .start, k := 0, status := none, buffer := [], countWidth := countWidth, countLo := 0#32
    value := none }

/-- The sector count the caller gets: the low `countWidth` bits of BLOCK_COUNT (48 R205: a 32-bit result loses 2^32). -/
def sectorCount (d : Disk) (hi : Word) : Nat := (hi.extractLsb' 0 1 ++ d.countLo).toNat % 2 ^ d.countWidth

/-- The call returns. -/
def done (d : Disk) (st : DiskStatus) : Disk := { d with pos := .idle, status := some st }

/-- Issue an operation, then poll `STATUS.DONE`: after each read the engine gets a step. -/
def pollEvents : List HostEvent := [.read 2, .wait]

/-- Fill BUF with sector k of `data`. -/
def fillEvents (data : List Byte) (k : Nat) : List HostEvent :=
  (List.range 512).filterMap fun i => (data[512 * k + i]?).map fun b => .write (512 + i) (b.setWidth 32)

/-- The next sector of a transfer of `count` sectors, or OK after the last (48 R203, R204). -/
def startSector (d : Disk) (count : Nat) (events : List HostEvent) : Disk × List HostEvent :=
  if d.k < count then ({ d with pos := .polled }, events ++ pollEvents) else (d.done .ok, [])

/-- The block index of sector k: `(sector + k) mod 2^32`. -/
def sectorIndex (d : Disk) (sector : Word) : Word := sector + BitVec.ofNat 32 d.k

/-- The first accesses of a call or of its next sector. -/
def startMove (d : Disk) : Disk × List HostEvent :=
  match d.call with
  | .diskInit => ({ d with pos := .polled }, .write 0 0x1#32 :: pollEvents)
  | .diskStatus => ({ d with pos := .statusRead }, [.read 2])
  | .diskRead sector count => d.startSector count [.write 1 (d.sectorIndex sector), .write 0 0x3#32]
  | .diskWrite sector count data =>
    d.startSector count (fillEvents data d.k ++ [.write 1 (d.sectorIndex sector), .write 0 0x4#32])
  | .diskIoctl .sectorCount => ({ d with pos := .polled }, .write 0 0x2#32 :: pollEvents)
  | .diskIoctl .sectorSize => ({ d with value := some 512 }.done .ok, [])
  | .diskIoctl .eraseBlockSize => ({ d with value := some 512 }.done .ok, [])
  | .diskIoctl .other => (d.done .badParameter, [])

/-- After `RESULT` was read: the generic error for any non-zero code (48 R201, R203 to R205), else what the call does
with a success. -/
def resultMove (d : Disk) (data : Word) : Disk × List HostEvent :=
  match d.call with
  | .diskInit => (d.done (if data = 0#32 then .ok else .notInitialized), [])
  | .diskRead _ _ => if data = 0#32 then ({ d with pos := .drained 0 }, [.read 512]) else (d.done .error, [])
  | .diskWrite _ _ _ => if data = 0#32 then ({ d with pos := .start, k := d.k + 1 }, []) else (d.done .error, [])
  | .diskIoctl _ => if data = 0#32 then ({ d with pos := .countLo }, [.read 4]) else (d.done .error, [])
  | .diskStatus => (d.done .ok, [])

/-- One move of the adapter: it looks at what its last read returned and posts the next accesses. -/
def move (d : Disk) (data : Word) : Disk × List HostEvent :=
  match d.pos with
  | .idle => (d, [])
  | .start => d.startMove
  | .polled => if data.getLsbD 1 = true then ({ d with pos := .result }, [.read 3]) else (d, pollEvents)
  | .result => d.resultMove data
  | .drained i =>
    let d := { d with buffer := d.buffer ++ [data.extractLsb' 0 8] }
    if i + 1 < 512 then ({ d with pos := .drained (i + 1) }, [.read (512 + (i + 1))])
    else ({ d with pos := .start, k := d.k + 1 }, [])
  | .statusRead => (d.done (if data.getLsbD 3 = true then .ok else .notInitialized), [])
  | .countLo => ({ d with pos := .countHi, countLo := data }, [.read 5])
  | .countHi => ({ d with value := some (d.sectorCount data) }.done .ok, [])

end Disk

/-- One step of the engine with the adapter as its host: while accesses are posted, the machine steps; when none is
left and a call is in progress, the adapter moves. -/
def diskStep (d : Disk) (s : State) : Host.Outcome (Disk × State) Fault Refusal :=
  if s.hostIn = [] ∧ d.pos ≠ .idle then
    .next ((d.move s.hostData).1, { s with hostIn := (d.move s.hostData).2 })
  else match step s with
    | .next t => .next (d, t)
    | .fault f => .fault f
    | .refused r => .refused r

end Sys2Proof.Machine
end

