-- ==== Sys2Proof/Machine/Sequences.lean ====
section
/-! DEFINITION. The operations as the spec writes them: each sequence's pseudocode run from its first step to its
completion on the replies listed in State (40, 42 to 46). `step` does not use this file: the statements hold the
step-by-step machine against it. A run is defined while the listed replies last and none of them is `blocked`; where they
end inside an operation the result is none (a poll that goes on for ever ends nowhere, 60 R227). -/

namespace Sys2Proof.Machine.Seq

/-- A piece of a sequence: it reads and changes the state, may fail (60 R222), and is undefined (none) where the listed
replies end. -/
abbrev Proc (α : Type) := ExceptT Raised (StateT State Option) α

/-- `xchg(t) -> r` (40 R92). -/
def xchg (t : Byte) : Proc Byte := fun s =>
  match s.linkIn with
  | .byte r :: _ => some (.ok r, s.exchanged t r)
  | _ => none

/-- Nothing listed any more: undefined. -/
def stop {α : Type} : Proc α := fun _ => none

/-- `wait_not_busy()`'s loop (40 R94): true is ok, false is timeout. -/
def waitNotBusyLoop : Nat → Proc Bool
  | 0 => stop
  | n + 1 => do
    let r ← xchg 0xFF#8
    modify fun s => { s with pollCnt := s.pollCnt + 1 }
    let s ← get
    if r = 0xFF#8 then return true
    if s.params.notBusyLimit ≠ 0 ∧ s.pollCnt = s.params.notBusyLimit then return false
    waitNotBusyLoop n

/-- `wait_not_busy()` (40 R94). -/
def waitNotBusy : Proc Bool := do
  modify fun s => { s with pollCnt := 0 }
  waitNotBusyLoop (← get).linkIn.length

/-- `poll_r1()`'s loop (40 R96): none is timeout. -/
def pollR1Loop : Nat → Proc (Option Byte)
  | 0 => stop
  | n + 1 => do
    let r ← xchg 0xFF#8
    modify fun s => { s with pollCnt := s.pollCnt + 1 }
    let s ← get
    if r.getLsbD 7 = false then
      modify fun s => { s with r1 := r }
      return some r
    if s.params.r1Limit ≠ 0 ∧ s.pollCnt = s.params.r1Limit then return none
    pollR1Loop n

/-- `poll_r1()` (40 R96). -/
def pollR1 : Proc (Option Byte) := do
  modify fun s => { s with pollCnt := 0 }
  pollR1Loop (← get).linkIn.length

/-- What `wait_token()` returns (40 R100). -/
inductive TokenOutcome where
  | ok | badToken | timeout
  deriving DecidableEq, Repr

/-- `wait_token()`'s loop (40 R100). -/
def waitTokenLoop : Nat → Proc TokenOutcome
  | 0 => stop
  | n + 1 => do
    let r ← xchg 0xFF#8
    modify fun s => { s with pollCnt := s.pollCnt + 1 }
    let s ← get
    if r ≠ 0xFF#8 then
      modify fun s => { s with token := r }
      return if r = 0xFE#8 then .ok else .badToken
    if s.params.tokenLimit ≠ 0 ∧ s.pollCnt = s.params.tokenLimit then return .timeout
    waitTokenLoop n

/-- `wait_token()` (40 R100). -/
def waitToken : Proc TokenOutcome := do
  modify fun s => { s with pollCnt := 0 }
  waitTokenLoop (← get).linkIn.length

/-- Send-only exchanges, what comes back discarded (40 R93). -/
def sendBytes : List Byte → Proc Unit
  | [] => return ()
  | b :: bs => do
    let _ ← xchg b
    sendBytes bs

/-- `send_frame(index, arg)` (40 R97): `f[0] <- 0x40 | index`, the argument high byte first, `(crc7 << 1) | 1`. -/
def sendFrame (index : BitVec 6) (arg : Word) : Proc Unit := do
  let f := [0x40#8 ||| index.setWidth 8, (arg >>> 24).setWidth 8, (arg >>> 16).setWidth 8, (arg >>> 8).setWidth 8,
    arg.setWidth 8]
  sendBytes (f ++ [((crc7 f).setWidth 8 <<< 1) ||| 1#8])

/-- `command(index, arg)` (40 R98), inside step `label` of `op`. -/
def command (op : Op) (label : Nat) (index : BitVec 6) (arg : Word) : Proc Byte := do
  modify fun s => { s with curCmd := index }
  if index ≠ 12#6 then
    if (← waitNotBusy) = false then throw ⟨.timeoutNotBusy, op, label⟩
  sendFrame index arg
  if index = 12#6 then
    let _ ← xchg 0xFF#8
  match ← pollR1 with
  | none => throw ⟨.timeoutR1, op, label⟩
  | some r => return r

/-- `read_payload4()` (40 R99). -/
def readPayload4 : Proc Unit := do
  for i in [0, 1, 2, 3] do
    let r ← xchg 0xFF#8
    modify fun s => { s with resp := s.resp.setIfInBounds i r }

/-- `dest[i] <- xchg(0xFF)` for the next `n` indexes from `i` (40 R101). -/
def readData (dest : Nat → Byte → State → State) : Nat → Nat → Proc Unit
  | _, 0 => return ()
  | i, n + 1 => do
    let r ← xchg 0xFF#8
    modify (dest i r)
    readData dest (i + 1) n

/-- `read_block(dest, n)` (40 R101, R102) inside step `label` of `op`, with the caller's codes: the token wait, the data
bytes, both CRC bytes, then the CRC16 of the whole `dest` when `DATA_CRC_ENABLE`. -/
def readBlock (op : Op) (label : Nat) (dest : Nat → Byte → State → State) (contents : State → List Byte) (n : Nat)
    (badToken crcError : Failure) : Proc Unit := do
  match ← waitToken with
  | .timeout => throw ⟨.timeoutToken, op, label⟩
  | .badToken => throw ⟨badToken, op, label⟩
  | .ok => readData dest 0 n
  let hi ← xchg 0xFF#8
  let lo ← xchg 0xFF#8
  let s ← get
  if s.params.dataCrcEnable = true ∧ crc16 (contents s) ≠ hi ++ lo then throw ⟨crcError, op, label⟩

/-- `BUF[0..511]` as a list. -/
def bufList (s : State) : List Byte := (List.range 512).map s.bufByte

/-- `send_block(token)` (40 R103). -/
def sendBlock (token : Byte) : Proc Unit := do
  let s ← get
  let c : BitVec 16 := if s.params.dataCrcEnable then crc16 (bufList s) else 0xFFFF#16
  sendBytes ([token] ++ bufList s ++ [(c >>> 8).setWidth 8, c.setWidth 8])

/-- `read_data_response()` (40 R104). -/
def readDataResponse : Proc Bool := do
  let r ← xchg 0xFF#8
  modify fun s => { s with dresp := r }
  return r &&& 0x1F#8 = 0x05#8

/-- INIT's S7 loop (42 R135). -/
def acmd41Loop : Nat → Proc Unit
  | 0 => stop
  | n + 1 => do
    let r ← command .init 7 55#6 0x00000000#32
    if r ≠ 0x01#8 then throw ⟨.initCmd55, .init, 7⟩
    let r ← command .init 7 41#6 0x40000000#32
    modify fun s => { s with roundCnt := s.roundCnt + 1 }
    let s ← get
    if r = 0x00#8 then return ()
    if r ≠ 0x01#8 then throw ⟨.initAcmd41, .init, 7⟩
    if s.params.acmd41Limit ≠ 0 ∧ s.roundCnt = s.params.acmd41Limit then throw ⟨.timeoutAcmd41, .init, 7⟩
    acmd41Loop n

/-- INIT, S1 to S10 (42 R130). -/
def init : Proc Unit := do
  modify State.csDeassert
  sendBytes (List.replicate (← get).params.initDummyBytes 0xFF#8)
  modify State.csAssert
  if (← command .init 4 0#6 0x00000000#32) ≠ 0x01#8 then throw ⟨.initCmd0, .init, 4⟩
  if (← command .init 5 8#6 0x000001AA#32) ≠ 0x01#8 then throw ⟨.initCmd8R1, .init, 5⟩
  readPayload4
  let s ← get
  if ¬(s.resp[3] = 0xAA#8 ∧ s.resp[2].getLsbD 0 = true) then throw ⟨.initCmd8R7, .init, 6⟩
  modify fun s => { s with roundCnt := 0 }
  acmd41Loop (← get).linkIn.length
  if (← command .init 8 58#6 0x00000000#32) ≠ 0x00#8 then throw ⟨.initCmd58, .init, 8⟩
  readPayload4
  if (← get).resp[0] &&& 0xC0#8 ≠ 0xC0#8 then throw ⟨.initOcr, .init, 9⟩
  modify State.csDeassert

/-- GET_BLOCKS_NUMBER, S1 to S6 (43 R150). -/
def getBlocksNumber : Proc Unit := do
  modify State.csAssert
  if (← command .getBlocksNumber 2 9#6 0x00000000#32) ≠ 0x00#8 then throw ⟨.csdCmd9, .getBlocksNumber, 2⟩
  readBlock .getBlocksNumber 3 (fun i b s => { s with csd := s.csd.setIfInBounds i b }) (fun s => s.csd.toList) 16
    .csdToken .crcCsd
  let s ← get
  if s.csd[0] &&& 0xC0#8 ≠ 0x40#8 then throw ⟨.csdVersion, .getBlocksNumber, 4⟩
  let c : Nat := (s.csd[7] &&& 0x3F#8).toNat * 2 ^ 16 + s.csd[8].toNat * 2 ^ 8 + s.csd[9].toNat
  modify fun s => { s with blockCount := BitVec.ofNat 33 ((c + 1) * 1024) }
  modify State.csDeassert

/-- READ_SINGLE_BLOCK, S1 to S4 (44 R160). -/
def readSingleBlock : Proc Unit := do
  modify State.csAssert
  if (← command .readSingleBlock 2 17#6 (← get).argl) ≠ 0x00#8 then throw ⟨.rdCmd17, .readSingleBlock, 2⟩
  readBlock .readSingleBlock 3 (fun i b s => s.setBuf i b) bufList 512 .rdToken .crcRd
  modify State.csDeassert

/-- WRITE_SINGLE_BLOCK, S1 to S6 (44 R164). -/
def writeSingleBlock : Proc Unit := do
  modify State.csAssert
  if (← command .writeSingleBlock 2 24#6 (← get).argl) ≠ 0x00#8 then throw ⟨.wrCmd24, .writeSingleBlock, 2⟩
  sendBlock 0xFE#8
  if (← readDataResponse) = false then throw ⟨.wrResp, .writeSingleBlock, 4⟩
  if (← waitNotBusy) = false then throw ⟨.timeoutNotBusy, .writeSingleBlock, 5⟩
  modify State.csDeassert

/-- READ_BEGIN, S1 to S3 (45 R170). -/
def readBegin : Proc Unit := do
  modify State.csAssert
  if (← command .readBegin 2 18#6 (← get).argl) ≠ 0x00#8 then throw ⟨.rdbCmd18, .readBegin, 2⟩
  modify State.csDeassert

/-- READ_DATA, S1 to S3 (45 R173). -/
def readDataOp : Proc Unit := do
  modify State.csAssert
  readBlock .readData 2 (fun i b s => s.setBuf i b) bufList 512 .rddToken .crcRdd
  modify State.csDeassert

/-- READ_END, S1 to S3 (45 R176). -/
def readEnd : Proc Unit := do
  modify State.csAssert
  if (← command .readEnd 2 12#6 0x00000000#32) ≠ 0x00#8 then throw ⟨.rdeCmd12, .readEnd, 2⟩
  modify State.csDeassert

/-- WRITE_BEGIN, S1 to S3 (45 R179). -/
def writeBegin : Proc Unit := do
  modify State.csAssert
  if (← command .writeBegin 2 25#6 (← get).argl) ≠ 0x00#8 then throw ⟨.wrbCmd25, .writeBegin, 2⟩
  modify State.csDeassert

/-- WRITE_DATA, S1 to S5 (45 R182). -/
def writeData : Proc Unit := do
  modify State.csAssert
  sendBlock 0xFC#8
  if (← readDataResponse) = false then throw ⟨.wrdResp, .writeData, 3⟩
  if (← waitNotBusy) = false then throw ⟨.timeoutNotBusy, .writeData, 4⟩
  modify State.csDeassert

/-- WRITE_END, S1 to S5 (45 R185). -/
def writeEnd : Proc Unit := do
  modify State.csAssert
  let _ ← xchg 0xFD#8
  let _ ← xchg 0xFF#8
  if (← waitNotBusy) = false then throw ⟨.timeoutNotBusy, .writeEnd, 4⟩
  modify State.csDeassert

/-- UNSELECT, S1 (46 R190). -/
def unselect : Proc Unit := modify State.csDeassert

/-- An operation's sequence up to its completion step. -/
def body : Op → Proc Unit
  | .init => init
  | .getBlocksNumber => getBlocksNumber
  | .readSingleBlock => readSingleBlock
  | .writeSingleBlock => writeSingleBlock
  | .readBegin => readBegin
  | .readData => readDataOp
  | .readEnd => readEnd
  | .writeBegin => writeBegin
  | .writeData => writeData
  | .writeEnd => writeEnd
  | .unselect => unselect

/-- The last step of a sequence that reached it: `RESULT <- 0; BUSY <- 0; DONE <- 1`, with INIT's `INITIALIZED` and
`STREAM`, and the begin and end operations' `STREAM`. -/
def success (op : Op) (s : State) : State :=
  let s := { s with result := 0#8, busy := false, done := true, phase := .idle }
  match op with
  | .init => { s with initialized := true, stream := .none }
  | .readBegin => { s with stream := .read }
  | .writeBegin => { s with stream := .write }
  | .readEnd | .writeEnd => { s with stream := .none }
  | _ => s

/-- `fail E` (60 R222): F1, F2; what a failed read, capacity query or early INIT leaves unspecified is forgotten. -/
def failure (f : Raised) (s : State) : State :=
  let s := s.csDeassert.spoil f
  { s with result := f.failure.code, busy := false, done := true, phase := .idle
           initialized := if f.op = Op.init then false else s.initialized }

/-- The whole operation, from the state its issuing step left (10 R28) to its completion. -/
def run (op : Op) (s : State) : Option State :=
  match body op s with
  | some (.ok (), s) => some (success op s)
  | some (.error f, s) => some (failure f s)
  | none => none

end Sys2Proof.Machine.Seq
end

