-- ==== Sys2Proof/Safety.lean ====
section
/-! DEFINITION. What counts as a sound state and a lawful host: the invariant of the machine, the caller's obligations as
predicates over State (70 R253, R260), and the terms the statements use. -/

namespace Sys2Proof.Machine

/-- `n` steps of the machine, stopping at the first fault or refusal. -/
abbrev runs (n : Nat) (s : State) : Host.Outcome State Fault Refusal := Host.Core.run Sys2Proof.core n s

/-- Whether the card is selected at a position: from an operation's `cs_assert()` to its `cs_deassert()` (40 R90, R91;
10 R18). -/
def Phase.selected : Phase → Bool
  | .idle | .initDeselect | .initDummy _ | .select _ | .complete _ | .illegal | .failComplete _ => false
  | .deselect op => op != .unselect
  | .cmdWait _ | .cmdFrame _ _ | .cmdStuff | .cmdPollR1 _ | .payload _ | .tokenWait _ | .blockIn _ | .blockInCrcHi _
  | .blockInCrcLo _ | .blockOutToken _ | .blockOut _ | .blockOutCrcHi _ | .blockOutCrcLo _ | .dataResponse _
  | .programWait _ | .stopToken | .stopDiscard | .failDeselect _ => true

/-- The reserved host codes (30 R81). -/
def reservedCode (c : BitVec 4) : Bool := c == 0x0#4 || c == 0xC#4 || c == 0xD#4 || c == 0xE#4 || c == 0xF#4

/-- `OPL` is the code of the operation PHASE stands in (10 R23, R24); UNSELECT has no select step. -/
def oplAgrees (s : State) : Bool :=
  match s.phase with
  | .idle => true
  | .illegal => reservedCode s.opl
  | .select op => op != .unselect && s.opl == op.code
  | p => match p.op with
    | some op => s.opl == op.code
    | none => false

/-- The line is undriven or deasserted while CS = 0, asserted while CS = 1 (70 R252). -/
def csLineAgrees (s : State) : Bool :=
  if s.cs then s.csLine == .asserted else s.csLine != .asserted

/-- The frame register holds the command's frame while it is in transmission and nothing outside (30 R61). -/
def frameAgrees (s : State) : Bool :=
  match s.phase with
  | .cmdFrame c _ => s.txFrame == c.frame s.argl
  | _ => s.txFrame == 0#48

/-- `CUR_CMD` is the index of the command being sent (10 R21). -/
def curCmdAgrees (s : State) : Bool :=
  match s.phase with
  | .cmdWait c | .cmdFrame c _ | .cmdPollR1 c => s.curCmd == c.index
  | .cmdStuff => s.curCmd == 12#6
  | _ => true

/-- `BYTE_CNT` in its range, exactly by position (10 R25: 0 to 513). -/
def byteCntAgrees (s : State) : Bool :=
  decide (s.byteCnt ≤ 513) &&
  match s.phase with
  | .payload _ => decide (s.byteCnt < 4)
  | .blockIn b => decide (s.byteCnt < b.size)
  | .blockInCrcHi b => s.byteCnt == b.size
  | .blockInCrcLo b => s.byteCnt == b.size + 1
  | .blockOut _ => decide (s.byteCnt < Config.blockSize)
  | .blockOutCrcHi _ => s.byteCnt == Config.blockSize
  | .blockOutCrcLo _ => s.byteCnt == Config.blockSize + 1
  | _ => true

/-- A count that has not reached its limit; no limit when it is 0 (40 R95). -/
def belowLimit (limit count : Nat) : Bool := limit == 0 || decide (count < limit)

/-- A poll in progress has made fewer exchanges, and the ACMD41 loop fewer rounds, than its limit (40 R95). -/
def countsBelowLimits (s : State) : Bool :=
  match s.phase with
  | .cmdWait c => belowLimit s.params.notBusyLimit s.pollCnt && (c.label != 7 || belowLimit s.params.acmd41Limit s.roundCnt)
  | .programWait _ => belowLimit s.params.notBusyLimit s.pollCnt
  | .cmdFrame c _ => c.label != 7 || belowLimit s.params.acmd41Limit s.roundCnt
  | .cmdPollR1 c => belowLimit s.params.r1Limit s.pollCnt && (c.label != 7 || belowLimit s.params.acmd41Limit s.roundCnt)
  | .tokenWait _ => belowLimit s.params.tokenLimit s.pollCnt
  | _ => true

/-- The first `n` bytes a block read has stored. -/
def received (s : State) (b : BlockIn) (n : Nat) : List Byte :=
  match b with
  | .csd => s.csd.toList.take n
  | .single | .stream => (List.range n).map s.bufByte

/-- `CRC16_ACC` is the CRC16 of the data bytes that have passed, when `DATA_CRC_ENABLE` (10 R25, 41 R123). -/
def crcAgrees (s : State) : Prop :=
  s.params.dataCrcEnable = true →
  match s.phase with
  | .blockIn b => s.crc16Acc = crc16 (received s b s.byteCnt)
  | .blockInCrcHi b | .blockInCrcLo b => s.crc16Acc = crc16 (received s b b.size)
  | .blockOut _ => s.crc16Acc = crc16 ((List.range s.byteCnt).map s.bufByte)
  | .blockOutCrcHi _ | .blockOutCrcLo _ => s.crc16Acc = crc16 ((List.range Config.blockSize).map s.bufByte)
  | _ => True

/-- `RESULT` is 0 or a code of 60 R221. -/
def resultLegal (s : State) : Prop := s.result = 0#8 ∨ ∃ f : Failure, s.result = f.code

/-- The invariant of the machine. -/
structure Invariant (s : State) : Prop where
  /-- `PHASE = IDLE` exactly when `BUSY = 0` (10 R24) -/
  busyAgrees : s.busy = !(s.phase == .idle)
  /-- `BUSY = 1` implies `DONE = 0` (10 R17) -/
  notDoneWhileBusy : s.busy = true → s.done = false
  opl : oplAgrees s = true
  /-- `ARGL = ARG` throughout any operation (10 R23) -/
  argl : s.busy = true → s.argl = s.arg
  /-- `CS` is 1 exactly between select and deselect; 0 while idle (10 R18) -/
  cs : s.cs = s.phase.selected
  csLine : csLineAgrees s = true
  frame : frameAgrees s = true
  curCmd : curCmdAgrees s = true
  byteCnt : byteCntAgrees s = true
  counts : countsBelowLimits s = true
  crc : crcAgrees s
  result : resultLegal s
  buf : Memory.wf s.buf = true

/-- The caller's obligation on the order of streaming calls (70 R260), by `STREAM`: data and end calls only in their own
session, no command-sending operation but INIT while a session is open. -/
def mayIssue (s : State) (op : Op) : Bool :=
  match op with
  | .init | .unselect => true
  | .readData | .readEnd => s.stream == .read
  | .writeData | .writeEnd => s.stream == .write
  | .getBlocksNumber | .readSingleBlock | .writeSingleBlock | .readBegin | .writeBegin => s.stream == .none

/-- The caller's obligation before a write operation: all 512 cells of BUF have been written (70 R253, row 4). -/
def bufFilled (s : State) : Bool := (List.range Config.blockSize).all fun i => (Memory.read s.buf i).isSome

/-- A state up to the sequencer's hidden counters and locals, none of which carries a value from one operation to the
next (10 R25). -/
def quiet (s : State) : State :=
  { s with pollCnt := 0, roundCnt := 0, byteCnt := 0, crc16Acc := 0#16, crcHi := 0#8, txFrame := 0#48 }

/-- The state the issuing step of an operation leaves (10 R28). -/
def issued (s : State) (op : Op) : State :=
  { s with opl := op.code, argl := s.arg, busy := true, done := false, phase := op.firstPhase }

/-- Replies of a card that is ready at once, keeps quiet during the frame, and gives `r1` on the first poll byte (95,
`K(r1)`). -/
def readyReplies (r1 : Byte) : List LinkReply := List.replicate 7 (.byte 0xFF#8) ++ [.byte r1]

/-! ## Terms of the statements -/

/-- The row that issues an operation (30 R80). -/
def Op.instr : Op → Instr
  | .init => .init
  | .getBlocksNumber => .getBlocksNumber
  | .readSingleBlock => .readSingleBlock
  | .writeSingleBlock => .writeSingleBlock
  | .readBegin => .readBegin
  | .readData => .readData
  | .readEnd => .readEnd
  | .writeBegin => .writeBegin
  | .writeData => .writeData
  | .writeEnd => .writeEnd
  | .unselect => .unselect

/-- The row of the frame a command sends (30 R62): the block commands carry the latched block index and its CRC7. -/
def Cmd.row (argl : Word) : Cmd → Instr
  | .cmd0 => .cmd0
  | .cmd8 => .cmd8
  | .cmd9 => .cmd9
  | .cmd12 => .cmd12
  | .cmd17 => .cmd17 argl (frameCrc7 17#6 argl)
  | .cmd18 => .cmd18 argl (frameCrc7 18#6 argl)
  | .cmd24 => .cmd24 argl (frameCrc7 24#6 argl)
  | .cmd25 => .cmd25 argl (frameCrc7 25#6 argl)
  | .cmd55 => .cmd55
  | .acmd41 => .acmd41
  | .cmd58 => .cmd58

/-- The block commands: those whose argument is the latched block index (30 R62, 20 R41). -/
def Cmd.takesBlock : Cmd → Bool
  | .cmd17 | .cmd18 | .cmd24 | .cmd25 => true
  | .cmd0 | .cmd8 | .cmd9 | .cmd12 | .cmd55 | .acmd41 | .cmd58 => false

/-- The operations that have a block index operand (10 R11). -/
def Op.takesBlock : Op → Bool
  | .readSingleBlock | .writeSingleBlock | .readBegin | .writeBegin => true
  | .init | .getBlocksNumber | .readData | .readEnd | .writeData | .writeEnd | .unselect => false

/-- The coming exchanges return these bytes, in order. -/
abbrev bytes (rs : List Byte) : List LinkReply := rs.map .byte

/-- The link events of receive-only exchanges that returned these bytes (30 R71). -/
abbrev polled (rs : List Byte) : List LinkEvent := rs.map (.x 0xFF#8)

/-- From `s` the machine runs to completion and then is `t`, but for the hidden counters and locals; at every step
boundary before that it is BUSY (10 R17). -/
def completesAs (s t : State) : Prop :=
  ∃ n u, runs n s = .next u ∧ quiet u = quiet t ∧ ∀ m, m < n → ∃ v, runs m s = .next v ∧ v.busy = true

/-- Issuing `op` at `s`, and then leaving the engine alone, does what the spec's sequence for `op` does: whenever the
sequence, run as written on the listed replies, ends in `t`, the row's meaning is the issuing step and the machine then
completes as `t`. -/
def runsAsWritten (op : Op) : Prop :=
  ∀ s t : State, s.busy = false → s.hostIn = [] → Seq.run op (issued s op) = some t →
    exec op.instr s = .next (issued s op) ∧ completesAs (issued s op) t

/-- What holds of the outcome of a step when it is a next state. -/
abbrev steps (s t : State) : Prop := s.engineMoves = true ∧ step s = .next t

/-- A state with the two flags no engine rule reads erased (10 R19, R20). -/
def eraseSession (s : State) : State := { s with stream := .none, initialized := false }

/-- A position whose exchange is made only to send, or whose received byte is discarded (40 R93, R105, 42 R131). -/
def Phase.discards : Phase → Bool
  | .initDummy _ | .cmdFrame _ _ | .cmdStuff | .blockOutToken _ | .blockOut _ | .blockOutCrcHi _ | .blockOutCrcLo _
  | .stopToken | .stopDiscard => true
  | .idle | .initDeselect | .select _ | .cmdWait _ | .cmdPollR1 _ | .payload _ | .tokenWait _ | .blockIn _
  | .blockInCrcHi _ | .blockInCrcLo _ | .dataResponse _ | .programWait _ | .deselect _ | .complete _ | .illegal
  | .failDeselect _ | .failComplete _ => false

/-- The received byte is discarded (40 R93, R105, 42 R131); with `DATA_CRC_ENABLE` false the two CRC bytes of a block are,
too (30 R69, 40 R101, 41 R125). -/
def State.discards (s : State) : Bool :=
  s.phase.discards ||
  match s.phase with
  | .blockInCrcHi _ | .blockInCrcLo _ => !s.params.dataCrcEnable
  | _ => false

/-- A position whose step completes an operation (10 R17). -/
abbrev Phase.completing (p : Phase) : Prop := (∃ op, p = .complete op) ∨ (∃ f, p = .failComplete f) ∨ p = .illegal

/-- What comes back during one command (40 R98), but CMD12, that ends with the R1 byte `r1`: bytes other than 0xFF, the
0xFF that ends the wait-not-busy, six bytes during the frame, bytes with bit 7 set, `r1`. -/
def answersCommand (rs : List Byte) (r1 : Byte) : Prop :=
  ∃ busy frame polls : List Byte, (∀ b ∈ busy, b ≠ 0xFF#8) ∧ frame.length = 6 ∧ (∀ b ∈ polls, b.getLsbD 7 = true) ∧
    rs = busy ++ [0xFF#8] ++ frame ++ polls ++ [r1]

/-- What comes back during one round of INIT's S7 that a card spends initialising: R1 0x01 to CMD55 and to ACMD41
(42 R135). -/
def initialisingRound (rs : List Byte) : Prop := ∃ a b, answersCommand a 0x01#8 ∧ answersCommand b 0x01#8 ∧ rs = a ++ b

/-- A position that makes no progress on `r`: a poll whose exit test `r` does not meet (40 R94, R96, R100). -/
def Phase.keepsWaiting (p : Phase) (r : Byte) : Bool :=
  match p with
  | .cmdWait _ | .programWait _ => r != 0xFF#8
  | .cmdPollR1 _ => r.getLsbD 7
  | .tokenWait _ => r == 0xFF#8
  | _ => false

end Sys2Proof.Machine
end

