-- ==== Sys2Proof/Certificates/Slice0/Obligations.lean ====
section
/-! DEFINITION. The statements for the provers, in the order: encodings, issuing and stepping, the link rows, the polls,
blocks, whole operations, the failure path, reset, and the whole machine. Each docstring names the rules of spec/ it
formalises; what a log entry decided is said there. -/

open Sys2Proof Sys2Proof.Machine

/-! ## Encodings -/

/-- Decoding the encoding of any instruction gives it back, with every operand at every value (30 R60 to R81). -/
def Obligations.DecodeOfEncode : Prop := ∀ i : Instr, decode (encode i) = .ok i

/-- Whatever decodes is its instruction's encoding, bit for bit, but for bits 31:4 of a `CTRL` value, which are ignored
(10 R28). -/
def Obligations.EncodeOfDecode : Prop :=
  ∀ c i, decode c = .ok i →
    encode i = match c with
      | .ctrl v => .ctrl (v &&& 0xF#32)
      | c => c

/-- Words written out from the spec's encodings decode to their rows: a host code, a reserved code, a constant frame, a
block frame, each token, an accepted data response, an R1. Where a bare word is a word of several rows (0xFE: both start
tokens; 0x03 and 0x0C: host codes and R1), the row `decodeTableWord` gives is the model's choice (log 17); with its
context every word has one row (30 R82). -/
def Obligations.KnownWords : Prop :=
  decodeTableWord 8 0x03 = some .readSingleBlock ∧
  decodeTableWord 8 0x0C = some .reservedC ∧
  decode (.ctrl 0xFFFFFFF8#32) = .ok .writeBegin ∧
  decodeTableWord 48 0x48000001AA87 = some .cmd8 ∧
  decodeTableWord 48 0x510000000AE1 = some (.cmd17 10#32 0x70#7) ∧
  decodeTableWord 8 0xFE = some .tokenStartBlockRead ∧
  decode (.sent 0xFE#8) = .ok .tokenStartBlockWriteSingle ∧
  decodeTableWord 8 0xFC = some .tokenStartBlockWriteMulti ∧
  decodeTableWord 8 0xFD = some .tokenStopTran ∧
  decodeTableWord 8 0xE5 = some (.dataResponseAccepted 7#3) ∧
  decodeTableWord 8 0x7F = some (.r1 0x7F#7) ∧
  decodeTableWord 8 0xFF = some .filler ∧
  decode (.r1Poll 0x80#8) = .error .notYetR1

/-- The layout of a command frame (30 R60): the fields of the 48-bit word, and the six bytes, byte 0 first. Every index
and every argument has one. -/
def Obligations.FrameLayout : Prop :=
  ∀ (index : BitVec 6) (arg : Word),
    let head : List Byte := [0x40#8 ||| index.setWidth 8, arg.extractLsb' 24 8, arg.extractLsb' 16 8,
      arg.extractLsb' 8 8, arg.extractLsb' 0 8]
    let f := frameWord index arg (crc7 head)
    f = 0b01#2 ++ index ++ arg ++ crc7 head ++ 1#1 ∧
    [frameByte f 0, frameByte f 1, frameByte f 2, frameByte f 3, frameByte f 4, frameByte f 5]
      = head ++ [((crc7 head).setWidth 8 <<< 1) ||| 1#8] ∧
    ∀ (c : Cmd) (argl : Word), c.index = index → c.argument argl = arg → c.frame argl = f

/-- The constant frames and sample block frames, and the check values of both CRC units (41 R120, R122, R123). -/
def Obligations.KnownCrcs : Prop :=
  (∀ a, Cmd.cmd0.frame a = 0x400000000095#48 ∧ Cmd.cmd8.frame a = 0x48000001AA87#48 ∧
    Cmd.cmd9.frame a = 0x4900000000AF#48 ∧ Cmd.cmd12.frame a = 0x4C0000000061#48 ∧
    Cmd.cmd55.frame a = 0x770000000065#48 ∧ Cmd.acmd41.frame a = 0x694000000077#48 ∧
    Cmd.cmd58.frame a = 0x7A00000000FD#48) ∧
  Cmd.cmd17.frame 0x12345678#32 = 0x51123456785D#48 ∧ Cmd.cmd18.frame 256#32 = 0x5200000100F7#48 ∧
  Cmd.cmd24.frame 0xFFFFFFFF#32 = 0x58FFFFFFFF45#48 ∧ Cmd.cmd25.frame 10#32 = 0x590000000AB7#48 ∧
  crc7 [0x31#8, 0x32#8, 0x33#8, 0x34#8, 0x35#8, 0x36#8, 0x37#8, 0x38#8, 0x39#8] = 0x75#7 ∧
  crc16 [0x31#8, 0x32#8, 0x33#8, 0x34#8, 0x35#8, 0x36#8, 0x37#8, 0x38#8, 0x39#8] = 0x31C3#16

/-- Every frame the engine builds is a well-formed row of the table, the one of its command, with the latched block index
for the block commands (30 R62: no other index, no other argument). -/
def Obligations.EngineFramesAreRows : Prop :=
  ∀ (c : Cmd) (argl : Word),
    (c.row argl).wellFormed = true ∧ encode (c.row argl) = .frame (c.frame argl) ∧
    decode (.frame (c.frame argl)) = .ok (c.row argl)

/-- The CRC16 generator and checker belong together: data followed by its CRC16, high byte first, has CRC16 zero
(41 R123). -/
def Obligations.Crc16OfDataAndCrc : Prop :=
  ∀ data : List Byte, crc16 (data ++ [(crc16 data).extractLsb' 8 8, (crc16 data).extractLsb' 0 8]) = 0#16

/-! ## Issuing and stepping -/

/-- While BUSY = 0 every host code is issued in one step (10 R28): `OPL`, `ARGL`, `BUSY`, `DONE` and `PHASE` are written
and nothing else; a reserved code goes to its only step (46 R192). -/
def Obligations.IssueWhenIdle : Prop :=
  ∀ s : State, s.busy = false →
    let goes (code : BitVec 4) (p : Phase) : Host.Outcome State Fault Refusal :=
      .next { s with opl := code, argl := s.arg, busy := true, done := false, phase := p }
    exec .init s = goes 0x1#4 .initDeselect ∧
    exec .getBlocksNumber s = goes 0x2#4 (.select .getBlocksNumber) ∧
    exec .readSingleBlock s = goes 0x3#4 (.select .readSingleBlock) ∧
    exec .writeSingleBlock s = goes 0x4#4 (.select .writeSingleBlock) ∧
    exec .readBegin s = goes 0x5#4 (.select .readBegin) ∧
    exec .readData s = goes 0x6#4 (.select .readData) ∧
    exec .readEnd s = goes 0x7#4 (.select .readEnd) ∧
    exec .writeBegin s = goes 0x8#4 (.select .writeBegin) ∧
    exec .writeData s = goes 0x9#4 (.select .writeData) ∧
    exec .writeEnd s = goes 0xA#4 (.select .writeEnd) ∧
    exec .unselect s = goes 0xB#4 (.deselect .unselect) ∧
    exec .reserved0 s = goes 0x0#4 .illegal ∧ exec .reservedC s = goes 0xC#4 .illegal ∧
    exec .reservedD s = goes 0xD#4 .illegal ∧ exec .reservedE s = goes 0xE#4 .illegal ∧
    exec .reservedF s = goes 0xF#4 .illegal

/-- While BUSY = 1 a host write of any value to any register changes nothing (10 R36): no operation is issued, and `ARG`
and `BUF` keep their values. -/
def Obligations.BusyWritesIgnored : Prop :=
  ∀ (s : State) (n : Nat) (v : Word) (rest : List HostEvent),
    s.busy = true → s.hostIn = .write n v :: rest → step s = .next { s with hostIn := rest }

/-- A reserved code completes in its one further step with RESULT = -64, no link step, and every other element kept
(46 R192, 30 R81). -/
def Obligations.ReservedCodeCompletes : Prop :=
  ∀ (s : State) (code : BitVec 4) (i : Instr), s.busy = false → s.hostIn = [] →
    (i, code) ∈ [(.reserved0, 0x0#4), (.reservedC, 0xC#4), (.reservedD, 0xD#4), (.reservedE, 0xE#4),
      (Instr.reservedF, 0xF#4)] →
    ∃ t, exec i s = .next t ∧
      step t = .next { s with opl := code, argl := s.arg, result := 0xC0#8, busy := false, done := true, phase := .idle }

/-- A step runs the decoded instruction, host side: a write to `CTRL` runs the row its value decodes to. -/
def Obligations.StepRunsHostCode : Prop :=
  ∀ (s : State) (v : Word) (i : Instr) (rest : List HostEvent),
    s.hostIn = .write 0 v :: rest → decode (.ctrl v) = .ok i → step s = exec i { s with hostIn := rest }

/-- A step runs the decoded instruction, link side: where the engine is about to send a frame, a token or the filler,
and where it receives an R1, a read token or a data response, step is exec of the row the word decodes to; in the steps
that have no row it is the sequencer's step (log 16). -/
def Obligations.StepRunsLinkRow : Prop :=
  ∀ s : State, s.engineMoves = true →
    let s' : State := { s with hostIn := s.hostIn.tail }
    (∀ c i, s.phase = .cmdFrame c 0 → decode (.frame s.txFrame) = .ok i → step s = exec i s') ∧
    (∀ b i, s.phase = .blockOutToken b → decode (.sent b.token) = .ok i → step s = exec i s') ∧
    (∀ i, s.phase = .stopToken → decode (.sent 0xFD#8) = .ok i → step s = exec i s') ∧
    (∀ c r i, s.phase = .cmdPollR1 c → s.reply 0xFF#8 = .byte r → decode (.r1Poll r) = .ok i → step s = exec i s') ∧
    (∀ b r i, s.phase = .tokenWait b → s.reply 0xFF#8 = .byte r → decode (.tokenWait r) = .ok i → step s = exec i s') ∧
    (∀ b r i, s.phase = .dataResponse b → s.reply 0xFF#8 = .byte r → decode (.dataResponse r) = .ok i →
      step s = exec i s') ∧
    (s.fetch = .instr .filler → s.sends = some 0xFF#8 ∧ step s = exec .filler s') ∧
    (s.fetch = .bare → step s = .next s'.sequencerStep)

/-- The rows' meanings and the sequencer agree: wherever the frame register holds what 30 R61 says, an engine step is the
sequencer's step at its position, whichever row it runs. -/
def Obligations.RowsAgreeWithSequencer : Prop :=
  ∀ s : State, s.engineMoves = true → frameAgrees s = true →
    step s = .next ({ s with hostIn := s.hostIn.tail } : State).sequencerStep

/-- A table word placed with withFetchWord is decoded and run by the very next step, from any state. Where a word is
placed, and which row a word shared by several rows is, are the model's own (log 17, log 18), no rule of the spec. -/
def Obligations.FetchWordRuns : Prop :=
  ∀ (s : State) (nbits w : Nat) (i : Instr), decodeTableWord nbits w = some i →
    step (s.withFetchWord nbits w) = exec i { s.withFetchWord nbits w with hostIn := s.hostIn }

/-! ## The link rows -/

/-- Each frame row sends its frame's first byte, discards what comes back (40 R97, R93), and stands at byte 1 of its
command with the frame in the frame register; no other element changes. That a row is its first exchange is the model's
choice (log 16), as is that a block row sends the CRC7 it carries, right or wrong (log 22). Stated where the coming reply
is a listed byte; the exchange that does not return is UnboundedPollHangs's. -/
def Obligations.FrameRowsStart : Prop :=
  ∀ (s : State) (r : Byte) (rest : List LinkReply), s.linkIn = .byte r :: rest →
    let goes (c : Cmd) (f : Frame) (b : Byte) : Host.Outcome State Fault Refusal :=
      .next { s with phase := .cmdFrame c 1, txFrame := f, linkIn := rest, trace := s.trace ++ [.x b r] }
    exec .cmd0 s = goes .cmd0 0x400000000095#48 0x40#8 ∧
    exec .cmd8 s = goes .cmd8 0x48000001AA87#48 0x48#8 ∧
    exec .cmd9 s = goes .cmd9 0x4900000000AF#48 0x49#8 ∧
    exec .cmd12 s = goes .cmd12 0x4C0000000061#48 0x4C#8 ∧
    exec .cmd55 s = goes .cmd55 0x770000000065#48 0x77#8 ∧
    exec .acmd41 s = goes .acmd41 0x694000000077#48 0x69#8 ∧
    exec .cmd58 s = goes .cmd58 0x7A00000000FD#48 0x7A#8 ∧
    (∀ block crc, exec (.cmd17 block crc) s = goes .cmd17 (frameWord 17#6 block crc) 0x51#8) ∧
    (∀ block crc, exec (.cmd18 block crc) s = goes .cmd18 (frameWord 18#6 block crc) 0x52#8) ∧
    (∀ block crc, exec (.cmd24 block crc) s = goes .cmd24 (frameWord 24#6 block crc) 0x58#8) ∧
    (∀ block crc, exec (.cmd25 block crc) s = goes .cmd25 (frameWord 25#6 block crc) 0x59#8)

/-- `send_frame` (40 R97): a command's row and the five steps after it make six exchanges, sending `0x40 | index`, the
argument high byte first and the CRC byte, whatever comes back; then the frame is gone (30 R61) and CMD12's stuff byte
or the R1 poll comes next (40 R98). No other element changes. Of the model: that a row is its first exchange (log 16),
that the frame register is a field, 0 outside a transmission (log 13), and that POLL_CNT is 0 already after the last
frame byte (log 12). The eleven commands; the layout for every index and argument is FrameLayout's. -/
def Obligations.SendFrame : Prop :=
  ∀ (s : State) (c : Cmd) (r0 r1 r2 r3 r4 r5 : Byte) (rest : List LinkReply),
    s.hostIn = [] → s.linkIn = bytes [r0, r1, r2, r3, r4, r5] ++ rest →
    let a := c.argument s.argl
    let head : List Byte := [0x40#8 ||| c.index.setWidth 8, a.extractLsb' 24 8, a.extractLsb' 16 8, a.extractLsb' 8 8,
      a.extractLsb' 0 8]
    ∃ t, exec (c.row s.argl) s = .next t ∧
      runs 5 t = .next { s with
        phase := if c = .cmd12 then .cmdStuff else .cmdPollR1 c
        pollCnt := if c = .cmd12 then s.pollCnt else 0
        txFrame := 0#48
        linkIn := rest
        trace := s.trace ++
          List.zipWith .x (head ++ [((crc7 head).setWidth 8 <<< 1) ||| 1#8]) [r0, r1, r2, r3, r4, r5] }

/-- The tokens the engine sends are one exchange each, what comes back discarded (30 R68, 40 R93): a start token opens the
block; after the stop token one byte is to be discarded. That a row is one exchange is the model's choice (log 16), and
that BYTE_CNT and, with DATA_CRC_ENABLE, CRC16_ACC are cleared in the token's step is log 12. -/
def Obligations.SentTokens : Prop :=
  ∀ (s : State) (r : Byte) (rest : List LinkReply), s.linkIn = .byte r :: rest →
    exec .tokenStartBlockWriteSingle s = .next { s with
      phase := .blockOut .single, byteCnt := 0
      crc16Acc := if s.params.dataCrcEnable = true then 0#16 else s.crc16Acc
      linkIn := rest, trace := s.trace ++ [.x 0xFE#8 r] } ∧
    exec .tokenStartBlockWriteMulti s = .next { s with
      phase := .blockOut .stream, byteCnt := 0
      crc16Acc := if s.params.dataCrcEnable = true then 0#16 else s.crc16Acc
      linkIn := rest, trace := s.trace ++ [.x 0xFC#8 r] } ∧
    exec .tokenStopTran s = .next { s with
      phase := .stopDiscard, linkIn := rest, trace := s.trace ++ [.x 0xFD#8 r] }

/-- The stuff byte (40 R105): after the last byte of the CMD12 frame, and of no other frame, and after the stop token, one
filler exchange is made whose received byte is not tested, whatever it is; then the R1 poll, or the wait of WRITE_END.
Of the model: that the exchange runs the filler's row (log 16), and that POLL_CNT is 0 already after it (log 12). -/
def Obligations.StuffByte : Prop :=
  ∀ (s : State) (r : Byte) (rest : List LinkReply), s.linkIn = .byte r :: rest → s.hostIn = [] →
    (∀ c, s.phase = .cmdFrame c 5 →
      ∃ t, step s = .next t ∧ t.phase = if c = .cmd12 then .cmdStuff else .cmdPollR1 c) ∧
    (s.phase = .stopToken → ∃ t, step s = .next t ∧ t.phase = .stopDiscard) ∧
    (s.phase = .cmdStuff → step s = exec .filler s ∧
      exec .filler s = .next { s with
        phase := .cmdPollR1 .cmd12, pollCnt := 0, linkIn := rest, trace := s.trace ++ [.x 0xFF#8 r] }) ∧
    (s.phase = .stopDiscard → step s = exec .filler s ∧
      exec .filler s = .next { s with
        phase := .programWait .writeEnd, pollCnt := 0, linkIn := rest, trace := s.trace ++ [.x 0xFF#8 r] })

/-- INIT S1 and S2 (42 R131): `cs_deassert()`, then INIT_DUMMY_BYTES exchanges of 0xFF whose received bytes are discarded,
with CS = 0; S3 comes next. INIT_DUMMY_BYTES = 0, which 00 R5 does not allow, is in it (log 14). -/
def Obligations.InitDummyBytes : Prop :=
  ∀ (s : State) (rs : List Byte) (rest : List LinkReply),
    s.hostIn = [] → s.phase = .initDeselect → rs.length = s.params.initDummyBytes → s.linkIn = bytes rs ++ rest →
    runs (1 + rs.length) s = .next { s with
      phase := .select .init, cs := false, csLine := .deasserted, linkIn := rest
      trace := s.trace ++ [.desel] ++ polled rs }

/-! ## The polls -/

/-- `wait_not_busy` (40 R94, R95), before a command and after a write: bytes other than 0xFF are waited out, the first 0xFF
ends it; with a limit, that many other bytes end it on the failure path. The polarity is the spec's own choice
(90 C1, log 21); that the frame is built in the step of the ending 0xFF is log 12, its register log 13. -/
def Obligations.WaitNotBusy : Prop :=
  ∀ (s : State) (busy : List Byte) (rest : List LinkReply),
    s.hostIn = [] → s.pollCnt = 0 → (∀ b ∈ busy, b ≠ 0xFF#8) →
    let n := busy.length
    let l := s.params.notBusyLimit
    let ready : State := { s with
      pollCnt := n + 1, linkIn := rest, trace := s.trace ++ polled (busy ++ [0xFF#8]) }
    let late : State := { s with pollCnt := n, linkIn := rest, trace := s.trace ++ polled busy }
    (l = 0 ∨ n < l → s.linkIn = bytes (busy ++ [0xFF#8]) ++ rest →
      (∀ c, s.phase = .cmdWait c →
        runs (n + 1) s = .next { ready with phase := .cmdFrame c 0, txFrame := c.frame s.argl }) ∧
      (∀ w, s.phase = .programWait w → runs (n + 1) s = .next { ready with phase := .deselect w.op })) ∧
    (l ≠ 0 → n = l → s.linkIn = bytes busy ++ rest →
      (∀ c, s.phase = .cmdWait c →
        runs n s = .next { late with phase := .failDeselect ⟨.timeoutNotBusy, c.op, c.label⟩ }) ∧
      (∀ w, s.phase = .programWait w →
        runs n s = .next { late with phase := .failDeselect ⟨.timeoutNotBusy, w.op, w.label⟩ }))

/-- `poll_r1` (40 R96): POLL_CNT starts at 0 when the frame has gone out; bytes with bit 7 set are polled over; the first
byte with bit 7 clear is R1 and goes to the caller's check; with a limit, that many bytes with bit 7 set end the poll on
the failure path, and R1 is not written. That POLL_CNT is 0 already after the last frame byte, or CMD12's stuff byte, is
log 12. -/
def Obligations.PollR1 : Prop :=
  ∀ (s : State) (c : Cmd) (busy : List Byte) (r : Byte) (rest : List LinkReply),
    s.hostIn = [] →
    (s.phase = .cmdFrame c 5 → c ≠ .cmd12 → s.linkIn = .byte r :: rest →
      ∃ t, step s = .next t ∧ t.phase = .cmdPollR1 c ∧ t.pollCnt = 0) ∧
    (s.phase = .cmdStuff → s.linkIn = .byte r :: rest →
      ∃ t, step s = .next t ∧ t.phase = .cmdPollR1 .cmd12 ∧ t.pollCnt = 0) ∧
    (s.phase = .cmdPollR1 c → s.pollCnt = 0 → (∀ b ∈ busy, b.getLsbD 7 = true) →
      let n := busy.length
      let l := s.params.r1Limit
      (l = 0 ∨ n < l → r.getLsbD 7 = false → s.linkIn = bytes (busy ++ [r]) ++ rest →
        runs (n + 1) s = .next (({ s with
          pollCnt := n + 1, r1 := r, linkIn := rest, trace := s.trace ++ polled (busy ++ [r]) } : State).checkR1 c r)) ∧
      (l ≠ 0 → n = l → s.linkIn = bytes busy ++ rest →
        runs n s = .next { s with
          pollCnt := n, linkIn := rest, trace := s.trace ++ polled busy
          phase := .failDeselect ⟨.timeoutR1, c.op, c.label⟩ }))

/-- `wait_token` (40 R100, D11): 0xFF bytes are skipped; the first other byte is TOKEN and is 0xFE or ends the operation;
with a limit, that many 0xFF bytes end it. That BYTE_CNT and, with DATA_CRC_ENABLE, CRC16_ACC are cleared in the token's
step is log 12. -/
def Obligations.WaitToken : Prop :=
  ∀ (s : State) (b : BlockIn) (n : Nat) (r : Byte) (rest : List LinkReply),
    s.hostIn = [] → s.phase = .tokenWait b → s.pollCnt = 0 →
    let skipped := List.replicate n 0xFF#8
    let l := s.params.tokenLimit
    let ended : State := { s with
      pollCnt := n + 1, token := r, linkIn := rest, trace := s.trace ++ polled (skipped ++ [r]) }
    (l = 0 ∨ n < l → r ≠ 0xFF#8 → s.linkIn = bytes (skipped ++ [r]) ++ rest →
      (r = 0xFE#8 → runs (n + 1) s = .next { ended with
        phase := .blockIn b, byteCnt := 0
        crc16Acc := if s.params.dataCrcEnable = true then 0#16 else s.crc16Acc }) ∧
      (r ≠ 0xFE#8 → runs (n + 1) s = .next { ended with phase := .failDeselect ⟨b.tokenFailure, b.op, b.label⟩ })) ∧
    (l ≠ 0 → n = l → s.linkIn = bytes skipped ++ rest →
      runs n s = .next { s with
        pollCnt := n, linkIn := rest, trace := s.trace ++ polled skipped
        phase := .failDeselect ⟨.timeoutToken, b.op, b.label⟩ })

/-- The read token's row, at a token wait (40 R100): TOKEN is 0xFE and the data bytes come next. That a row is the
exchange that returned it is log 16; that BYTE_CNT and, with DATA_CRC_ENABLE, CRC16_ACC are cleared in it is log 12. -/
def Obligations.ReadTokenRow : Prop :=
  ∀ (s : State) (b : BlockIn) (rest : List LinkReply), s.phase = .tokenWait b → s.linkIn = .byte 0xFE#8 :: rest →
    exec .tokenStartBlockRead s = .next { s with
      phase := .blockIn b, pollCnt := s.pollCnt + 1, token := 0xFE#8, byteCnt := 0
      crc16Acc := if s.params.dataCrcEnable = true then 0#16 else s.crc16Acc
      linkIn := rest, trace := s.trace ++ [.x 0xFF#8 0xFE#8] }

/-- The R1 row, at an R1 poll (40 R96, R98; 30 R62; 42 R132, R133, R135, R136): R1 is the byte, and what comes next is the
caller's: the failure of the command for any byte but the required one; else the next command, payload, token wait,
token or deselect of the sequence. ACMD41 counts its round: 0x00 goes on, 0x01 repeats from CMD55 unless the limit is
reached, another byte fails. That a row is the exchange that returned it is log 16; that the next command's CUR_CMD,
which STATUS shows, and the counters are written in that step is log 12. -/
def Obligations.R1Row : Prop :=
  ∀ (s : State) (c : Cmd) (flags : BitVec 7) (rest : List LinkReply),
    s.phase = .cmdPollR1 c → s.linkIn = .byte (0#1 ++ flags) :: rest →
    let r : Byte := 0#1 ++ flags
    let seen : State := { s with
      pollCnt := s.pollCnt + 1, r1 := r, linkIn := rest, trace := s.trace ++ [.x 0xFF#8 r] }
    let command (s : State) (c : Cmd) : State := { s with phase := .cmdWait c, curCmd := c.index, pollCnt := 0 }
    let is (t : State) : Prop := exec (.r1 flags) s = .next t
    (c ≠ .acmd41 → r ≠ c.requiredR1 → is { seen with phase := .failDeselect ⟨c.failure, c.op, c.label⟩ }) ∧
    (r = c.requiredR1 →
      (c = .cmd0 → is (command seen .cmd8)) ∧
      (c = .cmd8 → is { seen with phase := .payload .r7, byteCnt := 0 }) ∧
      (c = .cmd55 → is (command seen .acmd41)) ∧
      (c = .acmd41 → is (command { seen with roundCnt := s.roundCnt + 1 } .cmd58)) ∧
      (c = .cmd58 → is { seen with phase := .payload .ocr, byteCnt := 0 }) ∧
      (c = .cmd9 → is { seen with phase := .tokenWait .csd, pollCnt := 0 }) ∧
      (c = .cmd17 → is { seen with phase := .tokenWait .single, pollCnt := 0 }) ∧
      (c = .cmd24 → is { seen with phase := .blockOutToken .single }) ∧
      (c = .cmd18 ∨ c = .cmd12 ∨ c = .cmd25 → is { seen with phase := .deselect c.op })) ∧
    (c = .acmd41 →
      let counted : State := { seen with roundCnt := s.roundCnt + 1 }
      let l := s.params.acmd41Limit
      (r ≠ 0x00#8 → r ≠ 0x01#8 → is { counted with phase := .failDeselect ⟨.initAcmd41, .init, 7⟩ }) ∧
      (r = 0x01#8 → l ≠ 0 → s.roundCnt + 1 = l →
        is { counted with phase := .failDeselect ⟨.timeoutAcmd41, .init, 7⟩ }) ∧
      (r = 0x01#8 → l = 0 ∨ s.roundCnt + 1 ≠ l → is (command counted .cmd55)))

/-- The data-response byte (30 R70, 40 R104): read in the one exchange after the second CRC byte; DRESP is all 8 bits; low
five bits 00101 are accepted, whatever bits 7:5 are, and the program-time wait follows; any other byte is the
operation's data-response failure. Which rows the exchange runs is log 16; that POLL_CNT is 0 already after it is
log 12. -/
def Obligations.DataResponse : Prop :=
  ∀ (s : State) (b : BlockOut) (r : Byte) (rest : List LinkReply), s.hostIn = [] → s.linkIn = .byte r :: rest →
    (s.phase = .blockOutCrcLo b → ∃ t, step s = .next t ∧ t.phase = .dataResponse b) ∧
    (s.phase = .dataResponse b →
      let seen : State := { s with dresp := r, linkIn := rest, trace := s.trace ++ [.x 0xFF#8 r] }
      (r &&& 0x1F#8 = 0x05#8 →
        step s = exec (.dataResponseAccepted (r.extractLsb' 5 3)) s ∧
        exec (.dataResponseAccepted (r.extractLsb' 5 3)) s
          = .next { seen with phase := .programWait b.programWait, pollCnt := 0 }) ∧
      (r &&& 0x1F#8 ≠ 0x05#8 →
        step s = exec .filler s ∧
        exec .filler s = .next { seen with phase := .failDeselect ⟨b.failure, b.op, b.label + 1⟩ }))

/-- The 4-byte payloads (40 R99, 30 R66, R67): the check of an R1 (which alone opens one) does so only for CMD8's R1 0x01
and CMD58's R1 0x00; the four exchanges that follow give RESP in order; R7 passes on RESP[3] = 0xAA and bit 0 of RESP[2],
the OCR on both top bits of RESP[0]. That the next command's CUR_CMD, POLL_CNT and ROUND_CNT are written in the step of
the fourth byte is log 12. -/
def Obligations.Payloads : Prop :=
  (∀ (s : State) (c : Cmd) (r : Byte) (p : Payload),
    (s.checkR1 c r).phase = .payload p ↔
      (c = .cmd8 ∧ r = 0x01#8 ∧ p = .r7) ∨ (c = .cmd58 ∧ r = 0x00#8 ∧ p = .ocr)) ∧
  ∀ (s : State) (p : Payload) (r0 r1 r2 r3 : Byte) (rest : List LinkReply),
    s.hostIn = [] → s.phase = .payload p → s.byteCnt = 0 → s.linkIn = bytes [r0, r1, r2, r3] ++ rest →
    let got : State := { s with
      resp := #v[r0, r1, r2, r3], byteCnt := 4, linkIn := rest, trace := s.trace ++ polled [r0, r1, r2, r3] }
    (p = .r7 → r3 = 0xAA#8 → r2.getLsbD 0 = true →
      runs 4 s = .next { got with phase := .cmdWait .cmd55, curCmd := 55#6, pollCnt := 0, roundCnt := 0 }) ∧
    (p = .r7 → ¬(r3 = 0xAA#8 ∧ r2.getLsbD 0 = true) →
      runs 4 s = .next { got with phase := .failDeselect ⟨.initCmd8R7, .init, 6⟩ }) ∧
    (p = .ocr → r0 &&& 0xC0#8 = 0xC0#8 → runs 4 s = .next { got with phase := .deselect .init }) ∧
    (p = .ocr → r0 &&& 0xC0#8 ≠ 0xC0#8 → runs 4 s = .next { got with phase := .failDeselect ⟨.initOcr, .init, 9⟩ })

/-! ## Blocks -/

/-- One data byte coming in (40 R101, 10 R12, R14): it is stored at BYTE_CNT, in BUF or in CSD, every other byte of both is
unchanged, and so is every other element but the counter, the position and the running CRC. That the exchange runs the
filler's row is log 16. -/
def Obligations.DataByteIn : Prop :=
  ∀ (s : State) (b : BlockIn) (r : Byte) (rest : List LinkReply),
    s.phase = .blockIn b → s.byteCnt < b.size → s.linkIn = .byte r :: rest →
    ∃ t, exec .filler s = .next t ∧
      t = { s with
        phase := if s.byteCnt + 1 < b.size then .blockIn b else .blockInCrcHi b
        byteCnt := s.byteCnt + 1
        crc16Acc := if s.params.dataCrcEnable = true then crc16Byte s.crc16Acc r else s.crc16Acc
        linkIn := rest, trace := s.trace ++ [.x 0xFF#8 r], buf := t.buf, csd := t.csd } ∧
      (b = .csd → t.csd = s.csd.setIfInBounds s.byteCnt r ∧ t.buf = s.buf) ∧
      (b ≠ .csd → t.csd = s.csd ∧ ∀ a, t.bufByte a = if a = s.byteCnt then r else s.bufByte a) ∧
      (Memory.wf s.buf = true → Memory.wf t.buf = true)

/-- A block that has come in (40 R101, R102; 20 R52): after the 512 data bytes and both CRC bytes, BUF[i] is the i-th byte
received, for every i; the deselect comes next, or, with DATA_CRC_ENABLE and another CRC16, the failure path. -/
def Obligations.ReadBlockDelivers : Prop :=
  ∀ (s : State) (b : BlockIn) (data : List Byte) (hi lo : Byte) (rest : List LinkReply),
    s.hostIn = [] → b ≠ .csd → s.phase = .blockIn b → s.byteCnt = 0 →
    (s.params.dataCrcEnable = true → s.crc16Acc = 0#16) → data.length = 512 → s.linkIn = bytes (data ++ [hi, lo]) ++ rest →
    ∃ t, runs 514 s = .next t ∧
      (∀ i (h : i < data.length), t.bufByte i = data[i]) ∧
      t.trace = s.trace ++ polled (data ++ [hi, lo]) ∧
      t.phase = (if s.params.dataCrcEnable = true ∧ crc16 data ≠ hi ++ lo then .failDeselect ⟨b.crcFailure, b.op, b.label⟩
        else .deselect b.op) ∧
      t = { s with
        phase := t.phase, buf := t.buf, byteCnt := 513, crc16Acc := t.crc16Acc, crcHi := 0#8, linkIn := rest
        trace := t.trace }

/-- A block that has gone out (40 R103): the token, BUF[0] to BUF[511] in order and the two CRC bytes, 515 exchanges
whatever comes back; BUF is unchanged; the data response comes next. The CRC is the CRC16 of BUF, or 0xFFFF with
DATA_CRC_ENABLE false. -/
def Obligations.WriteBlockCarriesBuf : Prop :=
  ∀ (s : State) (b : BlockOut) (rs : List Byte) (rest : List LinkReply),
    s.hostIn = [] → s.phase = .blockOutToken b → rs.length = 515 → s.linkIn = bytes rs ++ rest →
    let data := (List.range 512).map s.bufByte
    let crc : BitVec 16 := if s.params.dataCrcEnable = true then crc16 data else 0xFFFF#16
    ∃ t, runs 515 s = .next t ∧
      t = { s with
        phase := .dataResponse b, byteCnt := 513, crc16Acc := t.crc16Acc, linkIn := rest
        trace := s.trace ++
          List.zipWith .x ([b.token] ++ data ++ [crc.extractLsb' 8 8, crc.extractLsb' 0 8]) rs }

/-- The block count (43 R152): C_SIZE is the 22-bit field of CSD bytes 7, 8 and 9, and BLOCK_COUNT is (C_SIZE + 1) x 1024,
computed without wrap-around. -/
def Obligations.BlockCountArithmetic : Prop :=
  ∀ csd : Vector Byte 16,
    let c : Nat := ((csd[7] &&& 0x3F#8).toNat <<< 16) ||| (csd[8].toNat <<< 8) ||| csd[9].toNat
    (cSize csd).toNat = c ∧ c ≤ 4194303 ∧ (blockCountOf csd).toNat = (c + 1) <<< 10 ∧
    (blockCountOf csd).toNat = (c + 1) * 1024

/-- The CSD has come in (43 R150 S3 to S5, R151; 30 R72): a differing CRC16 fails first, then a structure field other than
01, each with BLOCK_COUNT unchanged; else BLOCK_COUNT is written and the deselect comes next. That these checks and
BLOCK_COUNT belong to the second CRC byte's step is log 12, where its first byte is kept log 13, the filler's row
log 16. -/
def Obligations.CsdDecode : Prop :=
  ∀ (s : State) (r : Byte) (rest : List LinkReply), s.phase = .blockInCrcLo .csd → s.linkIn = .byte r :: rest →
    let seen : State := { s with crcHi := 0#8, linkIn := rest, trace := s.trace ++ [.x 0xFF#8 r] }
    let wrong : Prop := s.params.dataCrcEnable = true ∧ s.crc16Acc ≠ s.crcHi ++ r
    (wrong → exec .filler s = .next { seen with phase := .failDeselect ⟨.crcCsd, .getBlocksNumber, 3⟩ }) ∧
    (¬wrong → s.csd[0] &&& 0xC0#8 ≠ 0x40#8 →
      exec .filler s = .next { seen with phase := .failDeselect ⟨.csdVersion, .getBlocksNumber, 4⟩ }) ∧
    (¬wrong → s.csd[0] &&& 0xC0#8 = 0x40#8 →
      exec .filler s = .next { seen with phase := .deselect .getBlocksNumber, blockCount := blockCountOf s.csd })

/-! ## Whole operations -/

/-- INIT runs as 42 R130 writes it: S1 to S11 in strict order, each check and each poll bound included, on every list of
replies on which it ends; on every failure INITIALIZED is cleared. Rests on log 6 (RESP after an early failure), log 14
(no dummy bytes), log 20 (CRC7) and log 21 (the polarity of wait-not-busy). Runs with host accesses or replies that do
not return are left out. -/
def Obligations.InitRunsAsWritten : Prop := decode (.ctrl 0x1#32) = .ok .init ∧ runsAsWritten .init

/-- GET_BLOCKS_NUMBER runs as 43 R150 writes it, on every list of replies on which it ends. Rests on log 5 (CSD after a
failure), log 20 (the CRCs) and log 21 (the polarity of wait-not-busy). Runs with host accesses or replies that do not
return are left out. -/
def Obligations.GetBlocksNumberRunsAsWritten : Prop :=
  decode (.ctrl 0x2#32) = .ok .getBlocksNumber ∧ runsAsWritten .getBlocksNumber

/-- READ_SINGLE_BLOCK runs as 44 R160 writes it, with the latched ARGL as CMD17's argument, on every list of replies on
which it ends. Rests on log 4 (BUF after a failure), log 20 (the CRCs) and log 21 (the polarity of wait-not-busy). Runs
with host accesses or replies that do not return are left out. -/
def Obligations.ReadSingleBlockRunsAsWritten : Prop :=
  decode (.ctrl 0x3#32) = .ok .readSingleBlock ∧ runsAsWritten .readSingleBlock

/-- WRITE_SINGLE_BLOCK runs as 44 R164 writes it, with the latched ARGL as CMD24's argument, on every list of replies on
which it ends. Rests on log 20 (the CRCs) and log 21 (the polarity of wait-not-busy). Runs with host accesses or replies
that do not return are left out. -/
def Obligations.WriteSingleBlockRunsAsWritten : Prop :=
  decode (.ctrl 0x4#32) = .ok .writeSingleBlock ∧ runsAsWritten .writeSingleBlock

/-- READ_BEGIN runs as 45 R170 writes it, on every list of replies on which it ends. Rests on log 20 (CRC7) and log 21 (the
polarity of wait-not-busy). Runs with host accesses or replies that do not return are left out. -/
def Obligations.ReadBeginRunsAsWritten : Prop := decode (.ctrl 0x5#32) = .ok .readBegin ∧ runsAsWritten .readBegin

/-- READ_DATA runs as 45 R173 writes it, on every list of replies on which it ends. Rests on log 4 (BUF after a failure)
and log 20 (CRC16). Runs with host accesses or replies that do not return are left out. -/
def Obligations.ReadDataRunsAsWritten : Prop := decode (.ctrl 0x6#32) = .ok .readData ∧ runsAsWritten .readData

/-- READ_END runs as 45 R176 writes it, on every list of replies on which it ends. Rests on log 20 (CRC7). Runs with host
accesses or replies that do not return are left out. -/
def Obligations.ReadEndRunsAsWritten : Prop := decode (.ctrl 0x7#32) = .ok .readEnd ∧ runsAsWritten .readEnd

/-- WRITE_BEGIN runs as 45 R179 writes it, on every list of replies on which it ends. Rests on log 20 (CRC7) and log 21
(the polarity of wait-not-busy). Runs with host accesses or replies that do not return are left out. -/
def Obligations.WriteBeginRunsAsWritten : Prop := decode (.ctrl 0x8#32) = .ok .writeBegin ∧ runsAsWritten .writeBegin

/-- WRITE_DATA runs as 45 R182 writes it, on every list of replies on which it ends. Rests on log 20 (CRC16) and log 21
(the polarity of wait-not-busy). Runs with host accesses or replies that do not return are left out. -/
def Obligations.WriteDataRunsAsWritten : Prop := decode (.ctrl 0x9#32) = .ok .writeData ∧ runsAsWritten .writeData

/-- WRITE_END runs as 45 R185 writes it, on every list of replies on which it ends. Rests on log 21 (the polarity of
wait-not-busy). Runs with host accesses or replies that do not return are left out. -/
def Obligations.WriteEndRunsAsWritten : Prop := decode (.ctrl 0xA#32) = .ok .writeEnd ∧ runsAsWritten .writeEnd

/-- UNSELECT from any idle state (46 R190): one `cs_deassert()` and completion with RESULT = 0, two steps, whatever the
card does; STREAM, INITIALIZED, BUF, CUR_CMD and every other element are unchanged. -/
def Obligations.UnselectCompletes : Prop :=
  ∀ s : State, s.busy = false → s.hostIn = [] →
    ∃ t, exec .unselect s = .next t ∧
      runs 2 t = .next { s with
        opl := 0xB#4, argl := s.arg, busy := false, done := true, result := 0#8, phase := .idle, cs := false
        csLine := .deasserted, trace := s.trace ++ [.desel] }

/-! ## The failure path -/

/-- `fail E` (60 R222), from any failed check: exactly two steps, F1 and F2; RESULT is the code, CS is 0, INIT clears
INITIALIZED, control goes to IDLE. STREAM, ARG, BLOCK_COUNT and the diagnostics R1, DRESP, TOKEN and CUR_CMD are as they
stood. BUF, CSD and RESP are too, but where 44 R162 and 93 U2 make them unspecified: BUF after a read, CSD after a
capacity query, RESP after an INIT that failed before S6 (log 4, 5, 6); there they are free values and the statement
says nothing of them. -/
def Obligations.FailurePath : Prop :=
  ∀ (s : State) (f : Raised), s.hostIn = [] → s.phase = .failDeselect f →
    ∃ t, runs 2 s = .next t ∧
      t = { s with
        result := f.failure.code, busy := false, done := true, phase := .idle, cs := false, csLine := .deasserted
        trace := s.trace ++ [.desel], initialized := if f.op = .init then false else s.initialized
        buf := t.buf, bufDraw := t.bufDraw, csd := t.csd, resp := t.resp, draws := t.draws } ∧
      (f.op ≠ .readSingleBlock → f.op ≠ .readData → t.buf = s.buf ∧ t.bufDraw = s.bufDraw) ∧
      (f.op ≠ .getBlocksNumber → t.csd = s.csd) ∧
      (f.op ≠ .init ∨ 6 ≤ f.label → t.resp = s.resp)

/-- The result codes (60 R220, R221): one negative code per failure, no two alike, each the byte of the table; where RESULT
holds one, the register the host reads is that negative number, sign-extended (10 R27). -/
def Obligations.FailureCodes : Prop :=
  (∀ f g : Failure, f.code = g.code → f = g) ∧ (∀ f : Failure, f.code.toInt < 0) ∧
  [Failure.initCmd0, .initCmd8R1, .initCmd8R7, .initCmd55, .initAcmd41, .initCmd58, .initOcr, .csdCmd9, .csdToken,
    .csdVersion, .rdCmd17, .rdToken, .wrCmd24, .wrResp, .rdbCmd18, .rddToken, .rdeCmd12, .wrbCmd25, .wrdResp, .crcCsd,
    .crcRd, .crcRdd, .timeoutNotBusy, .timeoutR1, .timeoutToken, .timeoutAcmd41, .illegalOp].map (fun f => f.code.toInt)
    = [-1, -2, -3, -4, -5, -6, -7, -8, -9, -10, -11, -12, -13, -14, -15, -16, -17, -18, -19, -24, -25, -26, -32, -33, -34,
      -35, -64] ∧
  (∀ (s : State) (f : Failure), s.result = f.code → (s.regValue .result).toInt = f.code.toInt)

/-! ## Reset -/

/-- What reset leaves, for the elements the spec gives a value (10 R37, 70 R250 to R252): after power-on and after the
reset event, whatever was running, with no call and no exchange. Of the model: that reset has the reference design's
parameters (log 7), and what the reset event keeps and that TRACE starts empty (log 19). -/
def Obligations.ResetLeaves : Prop :=
  let clear (t : State) : Prop :=
    t.busy = false ∧ t.done = false ∧ t.result = 0#8 ∧ t.cs = false ∧ t.initialized = false ∧ t.stream = .none ∧
    t.phase = .idle ∧ t.opl = 0#4 ∧ t.curCmd = 0#6 ∧ t.csLine = .undriven ∧ t.trace = []
  clear State.reset ∧ State.reset.params = Params.reference ∧
  ∀ (s : State) (rest : List HostEvent), s.hostIn = .reset :: rest →
    ∃ t, step s = .next t ∧ clear t ∧ t.params = s.params ∧ t.hostIn = rest ∧ t.linkIn = s.linkIn

/-- The invariant holds at reset. -/
def Obligations.InvAtReset : Prop := Invariant State.reset

/-! ## The whole machine -/

/-- Every step keeps the invariant: PHASE, BUSY, DONE, OPL, ARGL, CS and its line, CUR_CMD, the frame register, the
counters, the running CRC, RESULT and the canonical form of BUF stay as 10 R10 to R25 say, from every state that has
it. -/
def Obligations.StepKeepsInv : Prop := ∀ s t : State, Invariant s → step s = .next t → Invariant t

/-- A state with the invariant never stops: every step answers a next state (the only fault needs a frame register that
no run has; log 22). -/
def Obligations.InvAlwaysSteps : Prop := ∀ s : State, Invariant s → ∃ t, step s = .next t

/-- One step adds at most one link event, at the end of the trace, and never takes one away, but for reset; the host's
accesses add none (20 R47, 00 R8, 92 D25). -/
def Obligations.OneLinkEventPerStep : Prop :=
  ∀ s t : State, step s = .next t → s.hostIn.head? ≠ some .reset →
    ∃ es : List LinkEvent, t.trace = s.trace ++ es ∧ es.length ≤ 1 ∧ (s.engineMoves = false → es = [])

/-- ARG (10 R11): no operation writes it, neither its issuing step nor any engine step; every 32-bit value is framed
unchanged as the argument of the four block commands; the seven operations without a block operand do not read it,
directly or through ARGL. -/
def Obligations.ArgIsTheHosts : Prop :=
  (∀ s t : State, steps s t → t.arg = s.arg) ∧
  (∀ (op : Op) (s t : State), exec op.instr s = .next t → t.arg = s.arg) ∧
  (∀ (s t : State) (rest : List HostEvent) (n : Nat) (v : Word), s.hostIn = .write n v :: rest → n ≠ 1 →
    step s = .next t → t.arg = s.arg) ∧
  (∀ (c : Cmd) (a : Word), c.takesBlock = true → c.argument a = a ∧ c.op.takesBlock = true) ∧
  (∀ (s t : State) (op : Op) (a l : Word), s.phase.op = some op → op.takesBlock = false → s.engineMoves = true →
    step s = .next t → step { s with arg := a, argl := l } = .next { t with arg := a, argl := l })

/-- RESULT (10 R16): a step that is not reset changes it only as it completes an operation, an engine step at one of the
completing positions, where it is 0 on the success path and the failure's negative code on the failure path; the
completing step is the operation's last, so it is written once; the host reads it sign-extended (10 R27). -/
def Obligations.ResultAtCompletion : Prop :=
  (∀ s t : State, step s = .next t → s.hostIn.head? ≠ some .reset →
    t.result = s.result ∨
      (s.engineMoves = true ∧ s.phase.completing ∧ t.busy = false ∧ t.done = true ∧ t.phase = .idle)) ∧
  (∀ s t : State, steps s t →
    (∀ op, s.phase = .complete op → t.result = 0#8 ∧ t.busy = false ∧ t.done = true ∧ t.phase = .idle) ∧
    (∀ f, s.phase = .failComplete f →
      t.result = f.failure.code ∧ t.result.toInt < 0 ∧ t.busy = false ∧ t.done = true ∧ t.phase = .idle) ∧
    (s.phase = .illegal → t.result.toInt < 0 ∧ t.busy = false ∧ t.done = true ∧ t.phase = .idle) ∧
    (s.busy = true → t.busy = false → s.phase.completing) ∧
    (s.phase = .idle → t.result = s.result)) ∧
  (∀ s : State, s.regValue .result = s.result.signExtend 32)

/-- Who writes what (the last column of the table of 10 R10): an engine step changes an element only at the positions
whose primitive or completion step writes it. Parameters, ARG, ARGL, OPL and the host's read value are never changed by
one; PHASE may be by every one; CRC16_ACC only with DATA_CRC_ENABLE. That CUR_CMD, and the start of a count, belong to
the step before the one they are for is log 12; the frame register and the first CRC byte are log 13; BUF, CSD and RESP
become free values where an operation fails by log 4, 5 and 6. -/
def Obligations.WhoWritesWhat : Prop :=
  ∀ s t : State, steps s t →
    (t.params = s.params ∧ t.arg = s.arg ∧ t.argl = s.argl ∧ t.opl = s.opl ∧ t.hostData = s.hostData) ∧
    (t.initialized ≠ s.initialized →
      s.phase = .complete .init ∨ ∃ f, s.phase = .failComplete f ∧ f.op = .init) ∧
    (t.stream ≠ s.stream →
      ∃ op ∈ [Op.init, .readBegin, .readEnd, .writeBegin, .writeEnd], s.phase = .complete op) ∧
    (t.blockCount ≠ s.blockCount → s.phase = .blockInCrcLo .csd) ∧
    (t.resp ≠ s.resp → (∃ p, s.phase = .payload p) ∨ ∃ f, s.phase = .failComplete f ∧ f.op = .init) ∧
    (t.csd ≠ s.csd → s.phase = .blockIn .csd ∨ ∃ f, s.phase = .failComplete f ∧ f.op = .getBlocksNumber) ∧
    (t.buf ≠ s.buf ∨ t.bufDraw ≠ s.bufDraw → s.phase = .blockIn .single ∨ s.phase = .blockIn .stream ∨
      ∃ f, s.phase = .failComplete f ∧ (f.op = .readSingleBlock ∨ f.op = .readData)) ∧
    (t.cs ≠ s.cs → s.phase = .initDeselect ∨ (∃ op, s.phase = .select op) ∨ (∃ op, s.phase = .deselect op) ∨
      ∃ f, s.phase = .failDeselect f) ∧
    (t.curCmd ≠ s.curCmd → (∃ op, s.phase = .select op) ∨ (∃ c, s.phase = .cmdPollR1 c) ∨ s.phase = .payload .r7) ∧
    (t.r1 ≠ s.r1 → ∃ c, s.phase = .cmdPollR1 c) ∧
    (t.dresp ≠ s.dresp → ∃ b, s.phase = .dataResponse b) ∧
    (t.token ≠ s.token → ∃ b, s.phase = .tokenWait b) ∧
    (t.pollCnt ≠ s.pollCnt → (∃ c, s.phase = .cmdWait c ∨ s.phase = .cmdPollR1 c ∨ s.phase = .cmdFrame c 5) ∨
      (∃ b, s.phase = .tokenWait b) ∨ (∃ w, s.phase = .programWait w) ∨ (∃ op, s.phase = .select op) ∨
      s.phase = .cmdStuff ∨ s.phase = .stopDiscard ∨ s.phase = .payload .r7 ∨ ∃ b, s.phase = .dataResponse b) ∧
    (t.roundCnt ≠ s.roundCnt → s.phase = .cmdPollR1 .acmd41 ∨ s.phase = .payload .r7) ∧
    (t.byteCnt ≠ s.byteCnt → s.phase = .cmdPollR1 .cmd8 ∨ s.phase = .cmdPollR1 .cmd58 ∨ (∃ p, s.phase = .payload p) ∨
      (∃ b, s.phase = .tokenWait b ∨ s.phase = .blockIn b ∨ s.phase = .blockInCrcHi b) ∨
      ∃ b, s.phase = .blockOutToken b ∨ s.phase = .blockOut b ∨ s.phase = .blockOutCrcHi b) ∧
    (t.crc16Acc ≠ s.crc16Acc → s.params.dataCrcEnable = true ∧
      ((∃ b, s.phase = .tokenWait b ∨ s.phase = .blockIn b) ∨ ∃ b, s.phase = .blockOutToken b ∨ s.phase = .blockOut b)) ∧
    (t.txFrame ≠ s.txFrame → (∃ c, s.phase = .cmdWait c ∨ s.phase = .cmdFrame c 5) ∨ s.phase = .select .readEnd) ∧
    (t.crcHi ≠ s.crcHi → ∃ b, s.phase = .blockInCrcHi b ∨ s.phase = .blockInCrcLo b) ∧
    (t.busy ≠ s.busy ∨ t.done ≠ s.done ∨ t.result ≠ s.result → s.phase.completing)

/-- What each completed operation leaves in the two session flags (10 R19, R20; 42 R137, R138): INIT sets INITIALIZED and
closes the session, a begin opens its session, an end closes it, the other six keep both flags, whatever STREAM is; a
failing operation keeps STREAM, and INITIALIZED but for INIT. A data call that 70 R260 allows leaves its session open. -/
def Obligations.SessionFlags : Prop :=
  ∀ s t : State, steps s t →
    (s.phase = .complete .init → t.initialized = true ∧ t.stream = .none) ∧
    (s.phase = .complete .readBegin → t.initialized = s.initialized ∧ t.stream = .read) ∧
    (s.phase = .complete .writeBegin → t.initialized = s.initialized ∧ t.stream = .write) ∧
    (s.phase = .complete .readEnd ∨ s.phase = .complete .writeEnd →
      t.initialized = s.initialized ∧ t.stream = .none) ∧
    (∀ op, s.phase = .complete op → op ≠ .init → op ≠ .readBegin → op ≠ .writeBegin → op ≠ .readEnd → op ≠ .writeEnd →
      t.initialized = s.initialized ∧ t.stream = s.stream) ∧
    (∀ op, s.phase = .complete op → mayIssue s op = true →
      (op = .readData → t.stream = .read) ∧ (op = .writeData → t.stream = .write)) ∧
    (∀ f, s.phase = .failComplete f → t.stream = s.stream ∧
      t.initialized = if f.op = .init then false else s.initialized)

/-- The link is used only under chip-select (40 R90 to R92): in a state with the invariant, an engine step that exchanges a
byte has CS = 1 and the line asserted, but for INIT's dummy bytes, which have CS = 0; and while IDLE the engine does
nothing. -/
def Obligations.ExchangesWhileSelected : Prop :=
  ∀ s t : State, Invariant s → steps s t →
    (∀ b r, t.trace = s.trace ++ [.x b r] →
      (s.cs = true ∧ s.csLine = .asserted) ∨ (s.cs = false ∧ ∃ k, s.phase = .initDummy k)) ∧
    (s.phase = .idle → t = { s with hostIn := s.hostIn.tail })

/-- No engine rule reads STREAM or INITIALIZED (10 R19, R20, 45 R188): with other values of the two, every step but a host
read does the same, and the states differ in those two at most. -/
def Obligations.SessionFlagsUnread : Prop :=
  ∀ (s t : State) (a : Stream) (b : Bool), (∀ n, s.hostIn.head? ≠ some (.read n)) → step s = .next t →
    ∃ t', step { s with stream := a, initialized := b } = .next t' ∧ eraseSession t' = eraseSession t

/-- What comes back while the engine only sends, and each byte the rules discard, is tested by nothing and written nowhere
that is read (40 R93, R105, 42 R131; with DATA_CRC_ENABLE false the two CRC bytes of a block, 30 R69, 40 R101, 41 R125):
with another byte received the next state is the same but for the trace, and for the local that keeps the first CRC byte
(log 13), which with DATA_CRC_ENABLE false the next step drops unread. -/
def Obligations.DiscardedBytesUnread : Prop :=
  (∀ (s t : State) (r r' : Byte) (rest : List LinkReply), s.discards = true → s.engineMoves = true →
    s.linkIn = .byte r :: rest → step s = .next t →
    ∃ (b : Byte) (t' : State), t.trace = s.trace ++ [.x b r] ∧
      step { s with linkIn := .byte r' :: rest } = .next t' ∧
      t' = { t with trace := s.trace ++ [.x b r'], crcHi := t'.crcHi } ∧
      ((∀ d, s.phase ≠ .blockInCrcHi d) → t'.crcHi = t.crcHi)) ∧
  ∀ (s t : State) (b : BlockIn) (r x : Byte) (rest : List LinkReply), s.params.dataCrcEnable = false →
    s.phase = .blockInCrcLo b → s.engineMoves = true → s.linkIn = .byte r :: rest → step s = .next t →
    step { s with crcHi := x } = .next t

/-- With every limit 0 a poll whose exit test is never met goes on for as long as the card keeps it waiting (60 R227, 40
R95, 70 R262): the operation does not complete, BUSY stays 1, nothing the host writes is accepted, and the reset event
ends it. The same where the transport does not return (40 R92, 70 R262; a reply of its own in the model, log 8): the
engine stays at its step. And INIT's ACMD41 loop goes round for as long as the card answers 0x01 to both its commands
(70 R262), however many rounds. -/
def Obligations.UnboundedPollHangs : Prop :=
  (∀ (s : State) (waits : List Byte) (rest : List LinkReply),
    s.hostIn = [] → s.busy = true → (∀ r ∈ waits, s.phase.keepsWaiting r = true) →
    s.params.notBusyLimit = 0 → s.params.r1Limit = 0 → s.params.tokenLimit = 0 →
    s.linkIn = bytes waits ++ rest →
    (∃ t, runs waits.length s = .next t ∧ t.busy = true ∧ t.done = s.done ∧ t.result = s.result ∧ t.phase = s.phase ∧
      t.trace = s.trace ++ polled waits ∧ t.linkIn = rest ∧
      (∀ n v, step { t with hostIn := [.write n v] } = .next t) ∧
      ∃ u, step { t with hostIn := [.reset] } = .next u ∧ u.busy = false ∧ u.phase = .idle) ∧
    (waits = [] → s.sends ≠ none → frameAgrees s = true → rest.head? = some .blocked →
      step s = .next { s with linkIn := rest.tail })) ∧
  ∀ (s : State) (rounds : List (List Byte)) (rest : List LinkReply),
    s.hostIn = [] → s.busy = true → s.phase = .cmdWait .cmd55 →
    s.params.notBusyLimit = 0 → s.params.r1Limit = 0 → s.params.acmd41Limit = 0 →
    (∀ rs ∈ rounds, initialisingRound rs) → s.linkIn = bytes rounds.flatten ++ rest →
    ∃ t, runs rounds.flatten.length s = .next t ∧ t.busy = true ∧ t.done = s.done ∧ t.result = s.result ∧
      t.phase = .cmdWait .cmd55 ∧ t.roundCnt = s.roundCnt + rounds.length ∧ t.linkIn = rest ∧
      ∃ es, t.trace = s.trace ++ es ∧ es.length = rounds.flatten.length

/-- Host reads (10 R27, R29, R36): the value of each register number, the fields of STATUS, zero for CTRL and for the
numbers not in the table; the read changes nothing else. While BUSY = 1 the result registers give an unspecified value
(log 10), the others the same as when idle. -/
def Obligations.HostReads : Prop :=
  ∀ (s : State) (n : Nat) (rest : List HostEvent), s.hostIn = .read n :: rest →
    let gives (v : Word) : Prop := step s = .next { s with hostIn := rest, hostData := v }
    (n = 0 → gives 0#32) ∧ (n = 1 → gives s.arg) ∧
    (n = 2 → ∃ w : Word, gives w ∧ w.getLsbD 0 = s.busy ∧ w.getLsbD 1 = s.done ∧ w.getLsbD 2 = s.cs ∧
      w.getLsbD 3 = s.initialized ∧ w.extractLsb' 4 2 = s.stream.bits ∧ w.extractLsb' 6 2 = 0#2 ∧
      w.extractLsb' 8 6 = s.curCmd ∧ w.extractLsb' 14 2 = 0#2 ∧ w.extractLsb' 16 4 = s.opl ∧
      w.extractLsb' 20 12 = 0#12) ∧
    (n = 7 ∨ (12 ≤ n ∧ n < 16) ∨ (32 ≤ n ∧ n < 512) ∨ 1024 ≤ n → gives 0#32) ∧
    (s.busy = false →
      (n = 3 → gives (s.result.signExtend 32)) ∧
      (n = 4 → gives (s.blockCount.extractLsb' 0 32)) ∧
      (n = 5 → gives ((s.blockCount.extractLsb' 32 1).setWidth 32)) ∧
      (n = 6 → gives (0#8 ++ s.token ++ s.dresp ++ s.r1)) ∧
      (∀ i : Fin 4, n = 8 + i.val → gives (s.resp[i].setWidth 32)) ∧
      (∀ i : Fin 16, n = 16 + i.val → gives (s.csd[i].setWidth 32)) ∧
      (∀ i, i < 512 → n = 512 + i → gives ((s.bufByte i).setWidth 32))) ∧
    (s.busy = true → ∃ v d, step s = .next { s with hostIn := rest, hostData := v, draws := d })

/-- Host writes while BUSY = 0 to a number other than CTRL's (10 R27): ARG takes the word, BUF[i] its low byte with every
other cell unchanged, and a read-only or reserved number nothing. -/
def Obligations.HostWrites : Prop :=
  ∀ (s : State) (n : Nat) (v : Word) (rest : List HostEvent), s.busy = false → s.hostIn = .write n v :: rest →
    (n = 1 → step s = .next { s with hostIn := rest, arg := v }) ∧
    (∀ i, i < 512 → n = 512 + i → ∃ t, step s = .next t ∧ t = { s with hostIn := rest, buf := t.buf } ∧
      (∀ a, t.bufByte a = if a = i then v.extractLsb' 0 8 else s.bufByte a) ∧
      (Memory.wf s.buf = true → Memory.wf t.buf = true)) ∧
    (2 ≤ n ∧ n < 512 ∨ 1024 ≤ n → step s = .next { s with hostIn := rest })

/-- The Disk-I/O Adapter (48 R201 to R205): it writes no register but ARG, BUF and CTRL, issues no operation but INIT,
GET_BLOCKS_NUMBER and the two single-block ones, and collapses every non-zero RESULT into one status with no further
access; that it stops at the first failing sector is the spec's own reading (48 R203, 92 D30; log 24). The sector count
is the low `countWidth` bits of the 33-bit count read from two registers (93 U16: the width is a parameter, log 24); the
two sizes are 512 and need no operation, and any other ioctl is a bad parameter. -/
def Obligations.DiskAdapterIsThin : Prop :=
  (∀ (d : Disk) (data v : Word) (n : Nat), HostEvent.write n v ∈ (d.move data).2 →
    n = 1 ∨ (512 ≤ n ∧ n < 1024) ∨ (n = 0 ∧ v ∈ [0x1#32, 0x2#32, 0x3#32, 0x4#32])) ∧
  (∀ (d : Disk) (data : Word), d.pos = .result → data ≠ 0#32 → d.call ≠ .diskStatus →
    d.move data = (d.done (if d.call = .diskInit then .notInitialized else .error), [])) ∧
  (∀ (d : Disk) (lo hi : Word), d.pos = .countLo →
    ∃ e, d.move lo = (e, [.read 5]) ∧ ∃ f, e.move hi = (f, []) ∧ f.status = some .ok ∧
      f.value = some ((hi.toNat % 2 * 2 ^ 32 + lo.toNat) % 2 ^ d.countWidth)) ∧
  (∀ (d : Disk) (data : Word), d.pos = .start →
    (d.call = .diskIoctl .sectorSize ∨ d.call = .diskIoctl .eraseBlockSize →
      d.move data = ({ d with value := some 512 }.done .ok, [])) ∧
    (d.call = .diskIoctl .other → d.move data = (d.done .badParameter, [])))
end

