-- ==== Sys2Proof/Laws/Encoding.lean ====
section
/-! SUPPORT. The bits and the fields of a frame word. -/

namespace Sys2Proof

/-- Bit `i` of a frame word, by field. -/
theorem frameWord_getLsbD (index : BitVec 6) (arg : Word) (crc : BitVec 7) (i : Nat) :
    (frameWord index arg crc).getLsbD i =
      if i < 1 then (1#1).getLsbD i else if i - 1 < 7 then crc.getLsbD (i - 1)
      else if i - 1 - 7 < 32 then arg.getLsbD (i - 1 - 7)
      else if i - 1 - 7 - 32 < 6 then index.getLsbD (i - 1 - 7 - 32)
      else (0b01#2).getLsbD (i - 1 - 7 - 32 - 6) := by
  have h : (frameWord index arg crc).getLsbD i
    = BitVec.getLsbD (w := 2 + 6 + 32 + 7 + 1) (((((0b01#2 : BitVec 2) ++ index) ++ arg) ++ crc) ++ (1#1)) i := rfl
  rw [h]
  simp only [BitVec.getLsbD_append]

/-- The five fields of a frame word. -/
theorem frameWord_fields (index : BitVec 6) (arg : Word) (crc : BitVec 7) :
    (frameWord index arg crc).extractLsb' 46 2 = 0b01#2 ∧ (frameWord index arg crc).extractLsb' 0 1 = 1#1 ∧
    (frameWord index arg crc).extractLsb' 40 6 = index ∧ (frameWord index arg crc).extractLsb' 8 32 = arg ∧
    (frameWord index arg crc).extractLsb' 1 7 = crc := by
  refine ⟨?_, ?_, ?_, ?_, ?_⟩ <;> apply BitVec.eq_of_getLsbD_eq <;> intro i hi <;>
    simp only [BitVec.getLsbD_extractLsb', frameWord_getLsbD, hi, decide_true, Bool.true_and] <;>
    interval_cases i <;> simp

/-- A word with the start, transmission and stop bits is the frame word of its own fields. -/
theorem frameWord_of_fields {f : Frame} (h1 : f.extractLsb' 46 2 = 0b01#2) (h0 : f.extractLsb' 0 1 = 1#1) :
    frameWord (f.extractLsb' 40 6) (f.extractLsb' 8 32) (f.extractLsb' 1 7) = f := by
  apply BitVec.eq_of_getLsbD_eq
  intro i hi
  rw [frameWord_getLsbD, ← h1, ← h0]
  simp only [BitVec.getLsbD_extractLsb']
  interval_cases i <;> simp

/-- A frame's bits under the mask of a block row: the fixed bits and the index. -/
theorem frameWord_pattern (index : BitVec 6) (arg : Word) (crc : BitVec 7) :
    frameWord index arg crc &&& 0xFF0000000001#48 = frameWord index 0#32 0#7 := by
  apply BitVec.eq_of_getLsbD_eq
  intro i hi
  simp only [BitVec.getLsbD_and, frameWord_getLsbD]
  interval_cases i <;> simp

/-- A frame word decodes by its index, argument and CRC7. -/
theorem decodeFrame_frameWord (index : BitVec 6) (arg : Word) (crc : BitVec 7) :
    decodeFrame (frameWord index arg crc) = decodeCommand index arg crc := by
  obtain ⟨h1, h2, h3, h4, h5⟩ := frameWord_fields index arg crc
  simp [decodeFrame, h1, h2, h3, h4, h5]

end Sys2Proof
end

