-- ==== Sys2Proof/Laws/Memory.lean ====
section
/-! SUPPORT. BUF as a list of cells: reading after writing, and the canonical form, which every operation keeps. -/

namespace Sys2Proof.Machine

/-- A cell reads as what was written to it; every other cell as before. -/
theorem Memory.read_write (m : Memory) (a : Nat) (b : Byte) (x : Nat) :
    Memory.read (Memory.write m a b) x = if x = a then some b else Memory.read m x := by
  induction m with
  | nil => simp [Memory.write, Memory.read]
  | cons c m ih =>
    obtain ⟨a', b'⟩ := c
    by_cases h1 : a < a'
    · simp [Memory.write, Memory.read, h1]
    by_cases h2 : a = a'
    · subst h2
      by_cases hx : x = a <;> simp [Memory.write, Memory.read, hx]
    · by_cases hx : x = a'
      · have hxa : x ≠ a := fun h => h2 (h.symm.trans hx)
        simp only [Memory.write, Memory.read, h1, h2, if_false, hx, if_true]
        rw [if_neg (fun h => h2 h.symm)]
      · simp [Memory.write, Memory.read, h1, h2, hx, ih]

/-- Writing a cell keeps the strict order from `lo` on. -/
theorem Memory.wfFrom_write {lo a : Nat} (b : Byte) (ha : a < Config.blockSize) (hlo : lo ≤ a) :
    ∀ {m : Memory}, Memory.wfFrom lo m = true → Memory.wfFrom lo (Memory.write m a b) = true := by
  intro m
  induction m generalizing lo with
  | nil => intro _; simp [Memory.write, Memory.wfFrom, ha, hlo]
  | cons c m ih =>
    obtain ⟨a', b'⟩ := c
    intro h
    simp only [Memory.wfFrom, Bool.and_eq_true, decide_eq_true_eq] at h
    obtain ⟨⟨h1, h2⟩, h3⟩ := h
    by_cases g1 : a < a'
    · simp only [Memory.write, g1, if_true, Memory.wfFrom, Bool.and_eq_true, decide_eq_true_eq]
      exact ⟨⟨hlo, ha⟩, ⟨by omega, h2⟩, h3⟩
    by_cases g2 : a = a'
    · subst g2
      simp only [Memory.write, g1, if_false, if_true, Memory.wfFrom, Bool.and_eq_true, decide_eq_true_eq]
      exact ⟨⟨hlo, ha⟩, h3⟩
    · simp only [Memory.write, g1, g2, if_false, Memory.wfFrom, Bool.and_eq_true, decide_eq_true_eq]
      exact ⟨⟨h1, h2⟩, ih (by omega) h3⟩

/-- Writing a cell of BUF keeps the canonical form. -/
theorem Memory.wf_write {m : Memory} {a : Nat} (b : Byte) (ha : a < Config.blockSize) (h : Memory.wf m = true) :
    Memory.wf (Memory.write m a b) = true :=
  Memory.wfFrom_write b ha (Nat.zero_le a) h

/-- `setBuf` keeps the canonical form, whatever the index. -/
theorem State.setBuf_wf {s : State} (h : Memory.wf s.buf = true) (i : Nat) (b : Byte) :
    Memory.wf (s.setBuf i b).buf = true := by
  unfold State.setBuf
  split
  · rename_i hi; exact Memory.wf_write b hi h
  · exact h

/-- `setBuf` inside BUF changes the list of cells and nothing else. -/
theorem State.setBuf_eq (s : State) {i : Nat} (h : i < Config.blockSize) (b : Byte) :
    s.setBuf i b = { s with buf := Memory.write s.buf i b } := by
  simp [State.setBuf, h]

/-- Reading BUF after `setBuf`. -/
theorem State.bufByte_setBuf (s : State) {i : Nat} (h : i < Config.blockSize) (b : Byte) (a : Nat) :
    (s.setBuf i b).bufByte a = if a = i then b else s.bufByte a := by
  simp only [State.setBuf_eq s h, State.bufByte, Memory.read_write]
  split <;> simp

/-- Forgetting BUF leaves the canonical form. -/
theorem State.forgetBuf_wf (s : State) : Memory.wf s.forgetBuf.buf = true := rfl

/-- The failure path's forgetting keeps the canonical form. -/
theorem State.spoil_wf {s : State} (h : Memory.wf s.buf = true) (f : Raised) : Memory.wf (s.spoil f).buf = true := by
  unfold State.spoil
  split <;> first | exact h | exact State.forgetBuf_wf s | skip
  split <;> exact h

/-- Reset leaves the canonical form. -/
theorem State.reset_wf : Memory.wf State.reset.buf = true := rfl

end Sys2Proof.Machine
end

