-- ==== Sys2Proof/Laws/State.lean ====
section
/-! SUPPORT. What each named update of State does to each field: one conjunction per update, whose parts simp uses one by
one; true by rfl where the update makes no choice. -/

namespace Sys2Proof.Machine

@[simp] theorem State.csAssert_fields (s : State) :
    s.csAssert.params = s.params ∧ s.csAssert.arg = s.arg ∧ s.csAssert.buf = s.buf ∧ s.csAssert.resp = s.resp ∧
    s.csAssert.csd = s.csd ∧ s.csAssert.blockCount = s.blockCount ∧ s.csAssert.result = s.result ∧
    s.csAssert.busy = s.busy ∧ s.csAssert.done = s.done ∧ s.csAssert.cs = true ∧
    s.csAssert.initialized = s.initialized ∧ s.csAssert.stream = s.stream ∧ s.csAssert.curCmd = s.curCmd ∧
    s.csAssert.r1 = s.r1 ∧ s.csAssert.dresp = s.dresp ∧ s.csAssert.token = s.token ∧ s.csAssert.opl = s.opl ∧
    s.csAssert.argl = s.argl ∧ s.csAssert.phase = s.phase ∧ s.csAssert.pollCnt = s.pollCnt ∧
    s.csAssert.roundCnt = s.roundCnt ∧ s.csAssert.byteCnt = s.byteCnt ∧ s.csAssert.crc16Acc = s.crc16Acc ∧
    s.csAssert.txFrame = s.txFrame ∧ s.csAssert.crcHi = s.crcHi ∧ s.csAssert.draws = s.draws ∧
    s.csAssert.bufDraw = s.bufDraw ∧ s.csAssert.csLine = .asserted ∧ s.csAssert.hostIn = s.hostIn ∧
    s.csAssert.hostData = s.hostData ∧ s.csAssert.linkIn = s.linkIn ∧ s.csAssert.trace = (s.trace ++ [.sel]) :=
  ⟨rfl, rfl, rfl, rfl, rfl, rfl, rfl, rfl, rfl, rfl, rfl, rfl, rfl, rfl, rfl, rfl, rfl, rfl, rfl, rfl, rfl, rfl, rfl, rfl, rfl, rfl, rfl, rfl, rfl, rfl, rfl, rfl⟩

@[simp] theorem State.csDeassert_fields (s : State) :
    s.csDeassert.params = s.params ∧ s.csDeassert.arg = s.arg ∧ s.csDeassert.buf = s.buf ∧
    s.csDeassert.resp = s.resp ∧ s.csDeassert.csd = s.csd ∧ s.csDeassert.blockCount = s.blockCount ∧
    s.csDeassert.result = s.result ∧ s.csDeassert.busy = s.busy ∧ s.csDeassert.done = s.done ∧
    s.csDeassert.cs = false ∧ s.csDeassert.initialized = s.initialized ∧ s.csDeassert.stream = s.stream ∧
    s.csDeassert.curCmd = s.curCmd ∧ s.csDeassert.r1 = s.r1 ∧ s.csDeassert.dresp = s.dresp ∧
    s.csDeassert.token = s.token ∧ s.csDeassert.opl = s.opl ∧ s.csDeassert.argl = s.argl ∧
    s.csDeassert.phase = s.phase ∧ s.csDeassert.pollCnt = s.pollCnt ∧ s.csDeassert.roundCnt = s.roundCnt ∧
    s.csDeassert.byteCnt = s.byteCnt ∧ s.csDeassert.crc16Acc = s.crc16Acc ∧ s.csDeassert.txFrame = s.txFrame ∧
    s.csDeassert.crcHi = s.crcHi ∧ s.csDeassert.draws = s.draws ∧ s.csDeassert.bufDraw = s.bufDraw ∧
    s.csDeassert.csLine = .deasserted ∧ s.csDeassert.hostIn = s.hostIn ∧ s.csDeassert.hostData = s.hostData ∧
    s.csDeassert.linkIn = s.linkIn ∧ s.csDeassert.trace = (s.trace ++ [.desel]) :=
  ⟨rfl, rfl, rfl, rfl, rfl, rfl, rfl, rfl, rfl, rfl, rfl, rfl, rfl, rfl, rfl, rfl, rfl, rfl, rfl, rfl, rfl, rfl, rfl, rfl, rfl, rfl, rfl, rfl, rfl, rfl, rfl, rfl⟩

@[simp] theorem State.takeReply_fields (s : State) :
    s.takeReply.params = s.params ∧ s.takeReply.arg = s.arg ∧ s.takeReply.buf = s.buf ∧ s.takeReply.resp = s.resp ∧
    s.takeReply.csd = s.csd ∧ s.takeReply.blockCount = s.blockCount ∧ s.takeReply.result = s.result ∧
    s.takeReply.busy = s.busy ∧ s.takeReply.done = s.done ∧ s.takeReply.cs = s.cs ∧
    s.takeReply.initialized = s.initialized ∧ s.takeReply.stream = s.stream ∧ s.takeReply.curCmd = s.curCmd ∧
    s.takeReply.r1 = s.r1 ∧ s.takeReply.dresp = s.dresp ∧ s.takeReply.token = s.token ∧ s.takeReply.opl = s.opl ∧
    s.takeReply.argl = s.argl ∧ s.takeReply.phase = s.phase ∧ s.takeReply.pollCnt = s.pollCnt ∧
    s.takeReply.roundCnt = s.roundCnt ∧ s.takeReply.byteCnt = s.byteCnt ∧ s.takeReply.crc16Acc = s.crc16Acc ∧
    s.takeReply.txFrame = s.txFrame ∧ s.takeReply.crcHi = s.crcHi ∧
    s.takeReply.draws = (if s.linkIn.isEmpty then s.draws + 1 else s.draws) ∧ s.takeReply.bufDraw = s.bufDraw ∧
    s.takeReply.csLine = s.csLine ∧ s.takeReply.hostIn = s.hostIn ∧ s.takeReply.hostData = s.hostData ∧
    s.takeReply.linkIn = s.linkIn.tail ∧ s.takeReply.trace = s.trace :=
  ⟨rfl, rfl, rfl, rfl, rfl, rfl, rfl, rfl, rfl, rfl, rfl, rfl, rfl, rfl, rfl, rfl, rfl, rfl, rfl, rfl, rfl, rfl, rfl, rfl, rfl, rfl, rfl, rfl, rfl, rfl, rfl, rfl⟩

@[simp] theorem State.exchanged_fields (s : State) (t r : Byte) :
    (s.exchanged t r).params = s.params ∧ (s.exchanged t r).arg = s.arg ∧ (s.exchanged t r).buf = s.buf ∧
    (s.exchanged t r).resp = s.resp ∧ (s.exchanged t r).csd = s.csd ∧ (s.exchanged t r).blockCount = s.blockCount ∧
    (s.exchanged t r).result = s.result ∧ (s.exchanged t r).busy = s.busy ∧ (s.exchanged t r).done = s.done ∧
    (s.exchanged t r).cs = s.cs ∧ (s.exchanged t r).initialized = s.initialized ∧
    (s.exchanged t r).stream = s.stream ∧ (s.exchanged t r).curCmd = s.curCmd ∧ (s.exchanged t r).r1 = s.r1 ∧
    (s.exchanged t r).dresp = s.dresp ∧ (s.exchanged t r).token = s.token ∧ (s.exchanged t r).opl = s.opl ∧
    (s.exchanged t r).argl = s.argl ∧ (s.exchanged t r).phase = s.phase ∧ (s.exchanged t r).pollCnt = s.pollCnt ∧
    (s.exchanged t r).roundCnt = s.roundCnt ∧ (s.exchanged t r).byteCnt = s.byteCnt ∧
    (s.exchanged t r).crc16Acc = s.crc16Acc ∧ (s.exchanged t r).txFrame = s.txFrame ∧
    (s.exchanged t r).crcHi = s.crcHi ∧
    (s.exchanged t r).draws = (if s.linkIn.isEmpty then s.draws + 1 else s.draws) ∧
    (s.exchanged t r).bufDraw = s.bufDraw ∧ (s.exchanged t r).csLine = s.csLine ∧
    (s.exchanged t r).hostIn = s.hostIn ∧ (s.exchanged t r).hostData = s.hostData ∧
    (s.exchanged t r).linkIn = s.linkIn.tail ∧ (s.exchanged t r).trace = (s.trace ++ [.x t r]) :=
  ⟨rfl, rfl, rfl, rfl, rfl, rfl, rfl, rfl, rfl, rfl, rfl, rfl, rfl, rfl, rfl, rfl, rfl, rfl, rfl, rfl, rfl, rfl, rfl, rfl, rfl, rfl, rfl, rfl, rfl, rfl, rfl, rfl⟩

@[simp] theorem State.goto_fields (s : State) (p : Phase) :
    (s.goto p).params = s.params ∧ (s.goto p).arg = s.arg ∧ (s.goto p).buf = s.buf ∧ (s.goto p).resp = s.resp ∧
    (s.goto p).csd = s.csd ∧ (s.goto p).blockCount = s.blockCount ∧ (s.goto p).result = s.result ∧
    (s.goto p).busy = s.busy ∧ (s.goto p).done = s.done ∧ (s.goto p).cs = s.cs ∧
    (s.goto p).initialized = s.initialized ∧ (s.goto p).stream = s.stream ∧ (s.goto p).curCmd = s.curCmd ∧
    (s.goto p).r1 = s.r1 ∧ (s.goto p).dresp = s.dresp ∧ (s.goto p).token = s.token ∧ (s.goto p).opl = s.opl ∧
    (s.goto p).argl = s.argl ∧ (s.goto p).phase = p ∧ (s.goto p).pollCnt = s.pollCnt ∧
    (s.goto p).roundCnt = s.roundCnt ∧ (s.goto p).byteCnt = s.byteCnt ∧ (s.goto p).crc16Acc = s.crc16Acc ∧
    (s.goto p).txFrame = s.txFrame ∧ (s.goto p).crcHi = s.crcHi ∧ (s.goto p).draws = s.draws ∧
    (s.goto p).bufDraw = s.bufDraw ∧ (s.goto p).csLine = s.csLine ∧ (s.goto p).hostIn = s.hostIn ∧
    (s.goto p).hostData = s.hostData ∧ (s.goto p).linkIn = s.linkIn ∧ (s.goto p).trace = s.trace :=
  ⟨rfl, rfl, rfl, rfl, rfl, rfl, rfl, rfl, rfl, rfl, rfl, rfl, rfl, rfl, rfl, rfl, rfl, rfl, rfl, rfl, rfl, rfl, rfl, rfl, rfl, rfl, rfl, rfl, rfl, rfl, rfl, rfl⟩

@[simp] theorem State.startPoll_fields (s : State) (p : Phase) :
    (s.startPoll p).params = s.params ∧ (s.startPoll p).arg = s.arg ∧ (s.startPoll p).buf = s.buf ∧
    (s.startPoll p).resp = s.resp ∧ (s.startPoll p).csd = s.csd ∧ (s.startPoll p).blockCount = s.blockCount ∧
    (s.startPoll p).result = s.result ∧ (s.startPoll p).busy = s.busy ∧ (s.startPoll p).done = s.done ∧
    (s.startPoll p).cs = s.cs ∧ (s.startPoll p).initialized = s.initialized ∧ (s.startPoll p).stream = s.stream ∧
    (s.startPoll p).curCmd = s.curCmd ∧ (s.startPoll p).r1 = s.r1 ∧ (s.startPoll p).dresp = s.dresp ∧
    (s.startPoll p).token = s.token ∧ (s.startPoll p).opl = s.opl ∧ (s.startPoll p).argl = s.argl ∧
    (s.startPoll p).phase = p ∧ (s.startPoll p).pollCnt = 0 ∧ (s.startPoll p).roundCnt = s.roundCnt ∧
    (s.startPoll p).byteCnt = s.byteCnt ∧ (s.startPoll p).crc16Acc = s.crc16Acc ∧
    (s.startPoll p).txFrame = s.txFrame ∧ (s.startPoll p).crcHi = s.crcHi ∧ (s.startPoll p).draws = s.draws ∧
    (s.startPoll p).bufDraw = s.bufDraw ∧ (s.startPoll p).csLine = s.csLine ∧ (s.startPoll p).hostIn = s.hostIn ∧
    (s.startPoll p).hostData = s.hostData ∧ (s.startPoll p).linkIn = s.linkIn ∧ (s.startPoll p).trace = s.trace :=
  ⟨rfl, rfl, rfl, rfl, rfl, rfl, rfl, rfl, rfl, rfl, rfl, rfl, rfl, rfl, rfl, rfl, rfl, rfl, rfl, rfl, rfl, rfl, rfl, rfl, rfl, rfl, rfl, rfl, rfl, rfl, rfl, rfl⟩

@[simp] theorem State.startBytes_fields (s : State) (p : Phase) :
    (s.startBytes p).params = s.params ∧ (s.startBytes p).arg = s.arg ∧ (s.startBytes p).buf = s.buf ∧
    (s.startBytes p).resp = s.resp ∧ (s.startBytes p).csd = s.csd ∧ (s.startBytes p).blockCount = s.blockCount ∧
    (s.startBytes p).result = s.result ∧ (s.startBytes p).busy = s.busy ∧ (s.startBytes p).done = s.done ∧
    (s.startBytes p).cs = s.cs ∧ (s.startBytes p).initialized = s.initialized ∧
    (s.startBytes p).stream = s.stream ∧ (s.startBytes p).curCmd = s.curCmd ∧ (s.startBytes p).r1 = s.r1 ∧
    (s.startBytes p).dresp = s.dresp ∧ (s.startBytes p).token = s.token ∧ (s.startBytes p).opl = s.opl ∧
    (s.startBytes p).argl = s.argl ∧ (s.startBytes p).phase = p ∧ (s.startBytes p).pollCnt = s.pollCnt ∧
    (s.startBytes p).roundCnt = s.roundCnt ∧ (s.startBytes p).byteCnt = 0 ∧ (s.startBytes p).crc16Acc = s.crc16Acc ∧
    (s.startBytes p).txFrame = s.txFrame ∧ (s.startBytes p).crcHi = s.crcHi ∧ (s.startBytes p).draws = s.draws ∧
    (s.startBytes p).bufDraw = s.bufDraw ∧ (s.startBytes p).csLine = s.csLine ∧
    (s.startBytes p).hostIn = s.hostIn ∧ (s.startBytes p).hostData = s.hostData ∧
    (s.startBytes p).linkIn = s.linkIn ∧ (s.startBytes p).trace = s.trace :=
  ⟨rfl, rfl, rfl, rfl, rfl, rfl, rfl, rfl, rfl, rfl, rfl, rfl, rfl, rfl, rfl, rfl, rfl, rfl, rfl, rfl, rfl, rfl, rfl, rfl, rfl, rfl, rfl, rfl, rfl, rfl, rfl, rfl⟩

@[simp] theorem State.startBlock_fields (s : State) (p : Phase) :
    (s.startBlock p).params = s.params ∧ (s.startBlock p).arg = s.arg ∧ (s.startBlock p).buf = s.buf ∧
    (s.startBlock p).resp = s.resp ∧ (s.startBlock p).csd = s.csd ∧ (s.startBlock p).blockCount = s.blockCount ∧
    (s.startBlock p).result = s.result ∧ (s.startBlock p).busy = s.busy ∧ (s.startBlock p).done = s.done ∧
    (s.startBlock p).cs = s.cs ∧ (s.startBlock p).initialized = s.initialized ∧
    (s.startBlock p).stream = s.stream ∧ (s.startBlock p).curCmd = s.curCmd ∧ (s.startBlock p).r1 = s.r1 ∧
    (s.startBlock p).dresp = s.dresp ∧ (s.startBlock p).token = s.token ∧ (s.startBlock p).opl = s.opl ∧
    (s.startBlock p).argl = s.argl ∧ (s.startBlock p).phase = p ∧ (s.startBlock p).pollCnt = s.pollCnt ∧
    (s.startBlock p).roundCnt = s.roundCnt ∧ (s.startBlock p).byteCnt = 0 ∧
    (s.startBlock p).crc16Acc = (if s.params.dataCrcEnable then 0#16 else s.crc16Acc) ∧
    (s.startBlock p).txFrame = s.txFrame ∧ (s.startBlock p).crcHi = s.crcHi ∧ (s.startBlock p).draws = s.draws ∧
    (s.startBlock p).bufDraw = s.bufDraw ∧ (s.startBlock p).csLine = s.csLine ∧
    (s.startBlock p).hostIn = s.hostIn ∧ (s.startBlock p).hostData = s.hostData ∧
    (s.startBlock p).linkIn = s.linkIn ∧ (s.startBlock p).trace = s.trace :=
  ⟨rfl, rfl, rfl, rfl, rfl, rfl, rfl, rfl, rfl, rfl, rfl, rfl, rfl, rfl, rfl, rfl, rfl, rfl, rfl, rfl, rfl, rfl, rfl, rfl, rfl, rfl, rfl, rfl, rfl, rfl, rfl, rfl⟩

@[simp] theorem State.startFrame_fields (s : State) (c : Cmd) :
    (s.startFrame c).params = s.params ∧ (s.startFrame c).arg = s.arg ∧ (s.startFrame c).buf = s.buf ∧
    (s.startFrame c).resp = s.resp ∧ (s.startFrame c).csd = s.csd ∧ (s.startFrame c).blockCount = s.blockCount ∧
    (s.startFrame c).result = s.result ∧ (s.startFrame c).busy = s.busy ∧ (s.startFrame c).done = s.done ∧
    (s.startFrame c).cs = s.cs ∧ (s.startFrame c).initialized = s.initialized ∧
    (s.startFrame c).stream = s.stream ∧ (s.startFrame c).curCmd = s.curCmd ∧ (s.startFrame c).r1 = s.r1 ∧
    (s.startFrame c).dresp = s.dresp ∧ (s.startFrame c).token = s.token ∧ (s.startFrame c).opl = s.opl ∧
    (s.startFrame c).argl = s.argl ∧ (s.startFrame c).phase = (.cmdFrame c 0) ∧
    (s.startFrame c).pollCnt = s.pollCnt ∧ (s.startFrame c).roundCnt = s.roundCnt ∧
    (s.startFrame c).byteCnt = s.byteCnt ∧ (s.startFrame c).crc16Acc = s.crc16Acc ∧
    (s.startFrame c).txFrame = (c.frame s.argl) ∧ (s.startFrame c).crcHi = s.crcHi ∧
    (s.startFrame c).draws = s.draws ∧ (s.startFrame c).bufDraw = s.bufDraw ∧ (s.startFrame c).csLine = s.csLine ∧
    (s.startFrame c).hostIn = s.hostIn ∧ (s.startFrame c).hostData = s.hostData ∧
    (s.startFrame c).linkIn = s.linkIn ∧ (s.startFrame c).trace = s.trace :=
  ⟨rfl, rfl, rfl, rfl, rfl, rfl, rfl, rfl, rfl, rfl, rfl, rfl, rfl, rfl, rfl, rfl, rfl, rfl, rfl, rfl, rfl, rfl, rfl, rfl, rfl, rfl, rfl, rfl, rfl, rfl, rfl, rfl⟩

@[simp] theorem State.raise_fields (s : State) (f : Raised) :
    (s.raise f).params = s.params ∧ (s.raise f).arg = s.arg ∧ (s.raise f).buf = s.buf ∧ (s.raise f).resp = s.resp ∧
    (s.raise f).csd = s.csd ∧ (s.raise f).blockCount = s.blockCount ∧ (s.raise f).result = s.result ∧
    (s.raise f).busy = s.busy ∧ (s.raise f).done = s.done ∧ (s.raise f).cs = s.cs ∧
    (s.raise f).initialized = s.initialized ∧ (s.raise f).stream = s.stream ∧ (s.raise f).curCmd = s.curCmd ∧
    (s.raise f).r1 = s.r1 ∧ (s.raise f).dresp = s.dresp ∧ (s.raise f).token = s.token ∧ (s.raise f).opl = s.opl ∧
    (s.raise f).argl = s.argl ∧ (s.raise f).phase = (.failDeselect f) ∧ (s.raise f).pollCnt = s.pollCnt ∧
    (s.raise f).roundCnt = s.roundCnt ∧ (s.raise f).byteCnt = s.byteCnt ∧ (s.raise f).crc16Acc = s.crc16Acc ∧
    (s.raise f).txFrame = s.txFrame ∧ (s.raise f).crcHi = s.crcHi ∧ (s.raise f).draws = s.draws ∧
    (s.raise f).bufDraw = s.bufDraw ∧ (s.raise f).csLine = s.csLine ∧ (s.raise f).hostIn = s.hostIn ∧
    (s.raise f).hostData = s.hostData ∧ (s.raise f).linkIn = s.linkIn ∧ (s.raise f).trace = s.trace :=
  ⟨rfl, rfl, rfl, rfl, rfl, rfl, rfl, rfl, rfl, rfl, rfl, rfl, rfl, rfl, rfl, rfl, rfl, rfl, rfl, rfl, rfl, rfl, rfl, rfl, rfl, rfl, rfl, rfl, rfl, rfl, rfl, rfl⟩

@[simp] theorem State.failF1_fields (s : State) (f : Raised) :
    (s.failF1 f).params = s.params ∧ (s.failF1 f).arg = s.arg ∧ (s.failF1 f).buf = s.buf ∧
    (s.failF1 f).resp = s.resp ∧ (s.failF1 f).csd = s.csd ∧ (s.failF1 f).blockCount = s.blockCount ∧
    (s.failF1 f).result = s.result ∧ (s.failF1 f).busy = s.busy ∧ (s.failF1 f).done = s.done ∧
    (s.failF1 f).cs = false ∧ (s.failF1 f).initialized = s.initialized ∧ (s.failF1 f).stream = s.stream ∧
    (s.failF1 f).curCmd = s.curCmd ∧ (s.failF1 f).r1 = s.r1 ∧ (s.failF1 f).dresp = s.dresp ∧
    (s.failF1 f).token = s.token ∧ (s.failF1 f).opl = s.opl ∧ (s.failF1 f).argl = s.argl ∧
    (s.failF1 f).phase = (.failComplete f) ∧ (s.failF1 f).pollCnt = s.pollCnt ∧
    (s.failF1 f).roundCnt = s.roundCnt ∧ (s.failF1 f).byteCnt = s.byteCnt ∧ (s.failF1 f).crc16Acc = s.crc16Acc ∧
    (s.failF1 f).txFrame = s.txFrame ∧ (s.failF1 f).crcHi = s.crcHi ∧ (s.failF1 f).draws = s.draws ∧
    (s.failF1 f).bufDraw = s.bufDraw ∧ (s.failF1 f).csLine = .deasserted ∧ (s.failF1 f).hostIn = s.hostIn ∧
    (s.failF1 f).hostData = s.hostData ∧ (s.failF1 f).linkIn = s.linkIn ∧
    (s.failF1 f).trace = (s.trace ++ [.desel]) :=
  ⟨rfl, rfl, rfl, rfl, rfl, rfl, rfl, rfl, rfl, rfl, rfl, rfl, rfl, rfl, rfl, rfl, rfl, rfl, rfl, rfl, rfl, rfl, rfl, rfl, rfl, rfl, rfl, rfl, rfl, rfl, rfl, rfl⟩

@[simp] theorem State.finish_fields (s : State) (code : Byte) :
    (s.finish code).params = s.params ∧ (s.finish code).arg = s.arg ∧ (s.finish code).buf = s.buf ∧
    (s.finish code).resp = s.resp ∧ (s.finish code).csd = s.csd ∧ (s.finish code).blockCount = s.blockCount ∧
    (s.finish code).result = code ∧ (s.finish code).busy = false ∧ (s.finish code).done = true ∧
    (s.finish code).cs = s.cs ∧ (s.finish code).initialized = s.initialized ∧ (s.finish code).stream = s.stream ∧
    (s.finish code).curCmd = s.curCmd ∧ (s.finish code).r1 = s.r1 ∧ (s.finish code).dresp = s.dresp ∧
    (s.finish code).token = s.token ∧ (s.finish code).opl = s.opl ∧ (s.finish code).argl = s.argl ∧
    (s.finish code).phase = .idle ∧ (s.finish code).pollCnt = s.pollCnt ∧ (s.finish code).roundCnt = s.roundCnt ∧
    (s.finish code).byteCnt = s.byteCnt ∧ (s.finish code).crc16Acc = s.crc16Acc ∧
    (s.finish code).txFrame = s.txFrame ∧ (s.finish code).crcHi = s.crcHi ∧ (s.finish code).draws = s.draws ∧
    (s.finish code).bufDraw = s.bufDraw ∧ (s.finish code).csLine = s.csLine ∧ (s.finish code).hostIn = s.hostIn ∧
    (s.finish code).hostData = s.hostData ∧ (s.finish code).linkIn = s.linkIn ∧ (s.finish code).trace = s.trace :=
  ⟨rfl, rfl, rfl, rfl, rfl, rfl, rfl, rfl, rfl, rfl, rfl, rfl, rfl, rfl, rfl, rfl, rfl, rfl, rfl, rfl, rfl, rfl, rfl, rfl, rfl, rfl, rfl, rfl, rfl, rfl, rfl, rfl⟩

@[simp] theorem State.completeIllegal_fields (s : State) :
    s.completeIllegal.params = s.params ∧ s.completeIllegal.arg = s.arg ∧ s.completeIllegal.buf = s.buf ∧
    s.completeIllegal.resp = s.resp ∧ s.completeIllegal.csd = s.csd ∧ s.completeIllegal.blockCount = s.blockCount ∧
    s.completeIllegal.result = 0xC0#8 ∧ s.completeIllegal.busy = false ∧ s.completeIllegal.done = true ∧
    s.completeIllegal.cs = s.cs ∧ s.completeIllegal.initialized = s.initialized ∧
    s.completeIllegal.stream = s.stream ∧ s.completeIllegal.curCmd = s.curCmd ∧ s.completeIllegal.r1 = s.r1 ∧
    s.completeIllegal.dresp = s.dresp ∧ s.completeIllegal.token = s.token ∧ s.completeIllegal.opl = s.opl ∧
    s.completeIllegal.argl = s.argl ∧ s.completeIllegal.phase = .idle ∧ s.completeIllegal.pollCnt = s.pollCnt ∧
    s.completeIllegal.roundCnt = s.roundCnt ∧ s.completeIllegal.byteCnt = s.byteCnt ∧
    s.completeIllegal.crc16Acc = s.crc16Acc ∧ s.completeIllegal.txFrame = s.txFrame ∧
    s.completeIllegal.crcHi = s.crcHi ∧ s.completeIllegal.draws = s.draws ∧ s.completeIllegal.bufDraw = s.bufDraw ∧
    s.completeIllegal.csLine = s.csLine ∧ s.completeIllegal.hostIn = s.hostIn ∧
    s.completeIllegal.hostData = s.hostData ∧ s.completeIllegal.linkIn = s.linkIn ∧
    s.completeIllegal.trace = s.trace :=
  ⟨rfl, rfl, rfl, rfl, rfl, rfl, rfl, rfl, rfl, rfl, rfl, rfl, rfl, rfl, rfl, rfl, rfl, rfl, rfl, rfl, rfl, rfl, rfl, rfl, rfl, rfl, rfl, rfl, rfl, rfl, rfl, rfl⟩

@[simp] theorem State.forgetBuf_fields (s : State) :
    s.forgetBuf.params = s.params ∧ s.forgetBuf.arg = s.arg ∧ s.forgetBuf.buf = [] ∧ s.forgetBuf.resp = s.resp ∧
    s.forgetBuf.csd = s.csd ∧ s.forgetBuf.blockCount = s.blockCount ∧ s.forgetBuf.result = s.result ∧
    s.forgetBuf.busy = s.busy ∧ s.forgetBuf.done = s.done ∧ s.forgetBuf.cs = s.cs ∧
    s.forgetBuf.initialized = s.initialized ∧ s.forgetBuf.stream = s.stream ∧ s.forgetBuf.curCmd = s.curCmd ∧
    s.forgetBuf.r1 = s.r1 ∧ s.forgetBuf.dresp = s.dresp ∧ s.forgetBuf.token = s.token ∧ s.forgetBuf.opl = s.opl ∧
    s.forgetBuf.argl = s.argl ∧ s.forgetBuf.phase = s.phase ∧ s.forgetBuf.pollCnt = s.pollCnt ∧
    s.forgetBuf.roundCnt = s.roundCnt ∧ s.forgetBuf.byteCnt = s.byteCnt ∧ s.forgetBuf.crc16Acc = s.crc16Acc ∧
    s.forgetBuf.txFrame = s.txFrame ∧ s.forgetBuf.crcHi = s.crcHi ∧ s.forgetBuf.draws = (s.draws + 1) ∧
    s.forgetBuf.bufDraw = s.draws ∧ s.forgetBuf.csLine = s.csLine ∧ s.forgetBuf.hostIn = s.hostIn ∧
    s.forgetBuf.hostData = s.hostData ∧ s.forgetBuf.linkIn = s.linkIn ∧ s.forgetBuf.trace = s.trace :=
  ⟨rfl, rfl, rfl, rfl, rfl, rfl, rfl, rfl, rfl, rfl, rfl, rfl, rfl, rfl, rfl, rfl, rfl, rfl, rfl, rfl, rfl, rfl, rfl, rfl, rfl, rfl, rfl, rfl, rfl, rfl, rfl, rfl⟩

@[simp] theorem State.startCommand_fields (s : State) (c : Cmd) :
    (s.startCommand c).params = s.params ∧ (s.startCommand c).arg = s.arg ∧ (s.startCommand c).buf = s.buf ∧
    (s.startCommand c).resp = s.resp ∧ (s.startCommand c).csd = s.csd ∧
    (s.startCommand c).blockCount = s.blockCount ∧ (s.startCommand c).result = s.result ∧
    (s.startCommand c).busy = s.busy ∧ (s.startCommand c).done = s.done ∧ (s.startCommand c).cs = s.cs ∧
    (s.startCommand c).initialized = s.initialized ∧ (s.startCommand c).stream = s.stream ∧
    (s.startCommand c).curCmd = c.index ∧ (s.startCommand c).r1 = s.r1 ∧ (s.startCommand c).dresp = s.dresp ∧
    (s.startCommand c).token = s.token ∧ (s.startCommand c).opl = s.opl ∧ (s.startCommand c).argl = s.argl ∧
    (s.startCommand c).phase = (if c = .cmd12 then .cmdFrame c 0 else .cmdWait c) ∧
    (s.startCommand c).pollCnt = (if c = .cmd12 then s.pollCnt else 0) ∧ (s.startCommand c).roundCnt = s.roundCnt ∧
    (s.startCommand c).byteCnt = s.byteCnt ∧ (s.startCommand c).crc16Acc = s.crc16Acc ∧
    (s.startCommand c).txFrame = (if c = .cmd12 then c.frame s.argl else s.txFrame) ∧
    (s.startCommand c).crcHi = s.crcHi ∧ (s.startCommand c).draws = s.draws ∧
    (s.startCommand c).bufDraw = s.bufDraw ∧ (s.startCommand c).csLine = s.csLine ∧
    (s.startCommand c).hostIn = s.hostIn ∧ (s.startCommand c).hostData = s.hostData ∧
    (s.startCommand c).linkIn = s.linkIn ∧ (s.startCommand c).trace = s.trace := by
  unfold State.startCommand; split <;> simp

@[simp] theorem State.setBuf_fields (s : State) (i : Nat) (b : Byte) :
    (s.setBuf i b).params = s.params ∧ (s.setBuf i b).arg = s.arg ∧
    (s.setBuf i b).buf = (if i < Config.blockSize then Memory.write s.buf i b else s.buf) ∧
    (s.setBuf i b).resp = s.resp ∧ (s.setBuf i b).csd = s.csd ∧ (s.setBuf i b).blockCount = s.blockCount ∧
    (s.setBuf i b).result = s.result ∧ (s.setBuf i b).busy = s.busy ∧ (s.setBuf i b).done = s.done ∧
    (s.setBuf i b).cs = s.cs ∧ (s.setBuf i b).initialized = s.initialized ∧ (s.setBuf i b).stream = s.stream ∧
    (s.setBuf i b).curCmd = s.curCmd ∧ (s.setBuf i b).r1 = s.r1 ∧ (s.setBuf i b).dresp = s.dresp ∧
    (s.setBuf i b).token = s.token ∧ (s.setBuf i b).opl = s.opl ∧ (s.setBuf i b).argl = s.argl ∧
    (s.setBuf i b).phase = s.phase ∧ (s.setBuf i b).pollCnt = s.pollCnt ∧ (s.setBuf i b).roundCnt = s.roundCnt ∧
    (s.setBuf i b).byteCnt = s.byteCnt ∧ (s.setBuf i b).crc16Acc = s.crc16Acc ∧
    (s.setBuf i b).txFrame = s.txFrame ∧ (s.setBuf i b).crcHi = s.crcHi ∧ (s.setBuf i b).draws = s.draws ∧
    (s.setBuf i b).bufDraw = s.bufDraw ∧ (s.setBuf i b).csLine = s.csLine ∧ (s.setBuf i b).hostIn = s.hostIn ∧
    (s.setBuf i b).hostData = s.hostData ∧ (s.setBuf i b).linkIn = s.linkIn ∧ (s.setBuf i b).trace = s.trace := by
  unfold State.setBuf; split <;> simp

@[simp] theorem State.accumulate_fields (s : State) (b : Byte) :
    (s.accumulate b).params = s.params ∧ (s.accumulate b).arg = s.arg ∧ (s.accumulate b).buf = s.buf ∧
    (s.accumulate b).resp = s.resp ∧ (s.accumulate b).csd = s.csd ∧ (s.accumulate b).blockCount = s.blockCount ∧
    (s.accumulate b).result = s.result ∧ (s.accumulate b).busy = s.busy ∧ (s.accumulate b).done = s.done ∧
    (s.accumulate b).cs = s.cs ∧ (s.accumulate b).initialized = s.initialized ∧
    (s.accumulate b).stream = s.stream ∧ (s.accumulate b).curCmd = s.curCmd ∧ (s.accumulate b).r1 = s.r1 ∧
    (s.accumulate b).dresp = s.dresp ∧ (s.accumulate b).token = s.token ∧ (s.accumulate b).opl = s.opl ∧
    (s.accumulate b).argl = s.argl ∧ (s.accumulate b).phase = s.phase ∧ (s.accumulate b).pollCnt = s.pollCnt ∧
    (s.accumulate b).roundCnt = s.roundCnt ∧ (s.accumulate b).byteCnt = s.byteCnt ∧
    (s.accumulate b).crc16Acc = (if s.params.dataCrcEnable then crc16Byte s.crc16Acc b else s.crc16Acc) ∧
    (s.accumulate b).txFrame = s.txFrame ∧ (s.accumulate b).crcHi = s.crcHi ∧ (s.accumulate b).draws = s.draws ∧
    (s.accumulate b).bufDraw = s.bufDraw ∧ (s.accumulate b).csLine = s.csLine ∧
    (s.accumulate b).hostIn = s.hostIn ∧ (s.accumulate b).hostData = s.hostData ∧
    (s.accumulate b).linkIn = s.linkIn ∧ (s.accumulate b).trace = s.trace := by
  unfold State.accumulate; split <;> simp

@[simp] theorem State.spoil_fields (s : State) (f : Raised) :
    (s.spoil f).params = s.params ∧ (s.spoil f).arg = s.arg ∧ (s.spoil f).blockCount = s.blockCount ∧
    (s.spoil f).result = s.result ∧ (s.spoil f).busy = s.busy ∧ (s.spoil f).done = s.done ∧ (s.spoil f).cs = s.cs ∧
    (s.spoil f).initialized = s.initialized ∧ (s.spoil f).stream = s.stream ∧ (s.spoil f).curCmd = s.curCmd ∧
    (s.spoil f).r1 = s.r1 ∧ (s.spoil f).dresp = s.dresp ∧ (s.spoil f).token = s.token ∧ (s.spoil f).opl = s.opl ∧
    (s.spoil f).argl = s.argl ∧ (s.spoil f).phase = s.phase ∧ (s.spoil f).pollCnt = s.pollCnt ∧
    (s.spoil f).roundCnt = s.roundCnt ∧ (s.spoil f).byteCnt = s.byteCnt ∧ (s.spoil f).crc16Acc = s.crc16Acc ∧
    (s.spoil f).txFrame = s.txFrame ∧ (s.spoil f).crcHi = s.crcHi ∧ (s.spoil f).csLine = s.csLine ∧
    (s.spoil f).hostIn = s.hostIn ∧ (s.spoil f).hostData = s.hostData ∧ (s.spoil f).linkIn = s.linkIn ∧
    (s.spoil f).trace = s.trace := by
  unfold State.spoil State.forgetBuf State.forgetCsd State.forgetResp; repeat' split
  all_goals simp

/-- Issuing while idle. -/
theorem State.issue_idle {s : State} (h : s.busy = false) (code : BitVec 4) (p : Phase) :
    s.issue code p = { s with opl := code, argl := s.arg, busy := true, done := false, phase := p } := by
  simp [State.issue, h]

/-- Issuing while busy. -/
theorem State.issue_busy {s : State} (h : s.busy = true) (code : BitVec 4) (p : Phase) : s.issue code p = s := by
  simp [State.issue, h]

/-- Putting a state's own host list back changes nothing. -/
theorem State.hostIn_self {s : State} {l : List HostEvent} (h : s.hostIn = l) : { s with hostIn := l } = s := by
  subst h; rfl

end Sys2Proof.Machine
end

