-- ==== Sys2Proof/Laws/Ops.lean ====
section
/-! SUPPORT. One lemma per shared operation saying what it can do, and the shapes of a step. -/

namespace Sys2Proof.Machine

/-! ## The link -/

/-- A listed reply is the environment's answer. -/
theorem State.reply_cons {s : State} {r : LinkReply} {rest : List LinkReply} (h : s.linkIn = r :: rest) (t : Byte) :
    s.reply t = r := by
  simp [State.reply, h]

/-- Taking a listed reply changes the list of replies only. -/
theorem State.takeReply_cons {s : State} {r : LinkReply} {rest : List LinkReply} (h : s.linkIn = r :: rest) :
    s.takeReply = { s with linkIn := rest } := by
  simp [State.takeReply, h]

/-- An exchange with a listed reply: the reply is taken and the event recorded. -/
theorem State.exchanged_cons {s : State} {r : LinkReply} {rest : List LinkReply} (h : s.linkIn = r :: rest) (t b : Byte) :
    s.exchanged t b = { s with linkIn := rest, trace := s.trace ++ [.x t b] } := by
  simp [State.exchanged, State.takeReply_cons h]

/-- An exchange whose reply is listed continues with that byte. -/
theorem State.exchange_cons {s : State} {b : Byte} {rest : List LinkReply} (h : s.linkIn = .byte b :: rest) (t : Byte)
    (k : Byte → State → State) :
    s.exchange t k = k b { s with linkIn := rest, trace := s.trace ++ [.x t b] } := by
  simp [State.exchange, State.reply_cons h, State.exchanged_cons h]

/-- An exchange either does not return, or continues with the byte the environment answered. -/
theorem State.exchange_cases (s : State) (t : Byte) (k : Byte → State → State) :
    (s.reply t = .blocked ∧ s.exchange t k = s.takeReply) ∨
    ∃ b, s.reply t = .byte b ∧ s.exchange t k = k b (s.exchanged t b) := by
  cases h : s.reply t with
  | blocked => exact .inl ⟨rfl, by simp [State.exchange, h]⟩
  | byte b => exact .inr ⟨b, rfl, by simp [State.exchange, h]⟩

/-! ## Steps -/

/-- Where the host does nothing, the step is the engine's. -/
theorem step_engine {s : State} (h : s.engineMoves = true) : step s = engineStep { s with hostIn := s.hostIn.tail } := by
  cases hh : s.hostIn with
  | nil => simp [step, hh, State.hostIn_self hh]
  | cons e es => cases e <;> simp_all [step, State.engineMoves]

/-- With no host event listed the step is the engine's. -/
theorem step_alone {s : State} (h : s.hostIn = []) : step s = engineStep s := by
  simp [step, h]

/-- A step, by who moves. -/
theorem step_cases (s : State) :
    (s.engineMoves = true ∧ step s = engineStep { s with hostIn := s.hostIn.tail }) ∨
    (∃ n rest, s.hostIn = .read n :: rest ∧ step s = .next ({ s with hostIn := rest }.hostRead n)) ∨
    (∃ n v rest, s.hostIn = .write n v :: rest ∧ step s = hostWriteStep n v { s with hostIn := rest }) ∨
    (∃ rest, s.hostIn = .reset :: rest ∧ step s = .next { s with hostIn := rest }.resetEvent) := by
  cases hh : s.hostIn with
  | nil => exact .inl ⟨by simp [State.engineMoves, hh], by simp [step, hh, State.hostIn_self hh]⟩
  | cons e es =>
    cases e with
    | wait => exact .inl ⟨by simp [State.engineMoves, hh], by simp [step, hh]⟩
    | read n => exact .inr (.inl ⟨n, es, rfl, by simp [step, hh]⟩)
    | write n v => exact .inr (.inr (.inl ⟨n, v, es, rfl, by simp [step, hh]⟩))
    | reset => exact .inr (.inr (.inr ⟨es, rfl, by simp [step, hh]⟩))

/-- A host write to a number other than 0 is no instruction. -/
theorem hostWriteStep_other {n : Nat} (h : n ≠ 0) (v : Word) (s : State) :
    hostWriteStep n v s = .next (s.hostWrite n v) := by
  unfold hostWriteStep
  have : hostReg n ≠ .ctrl := by
    unfold hostReg
    simp only [h, if_false]
    repeat' split
    all_goals simp
  split
  · rename_i h1 _; exact absurd h1 this
  · rfl

/-- A host write to CTRL runs the row its value decodes to. -/
theorem hostWriteStep_ctrl (v : Word) (s : State) :
    hostWriteStep 0 v s = exec (decodeOp (v.extractLsb' 0 4)) s := by
  simp [hostWriteStep, hostReg, decode]

/-! ## Runs -/

@[simp] theorem runs_zero (s : State) : runs 0 s = .next s := rfl

/-- A run's first step. -/
theorem runs_succ (n : Nat) {s t : State} (h : step s = .next t) : runs (n + 1) s = runs n t := by
  simp [runs, Host.Core.run, Sys2Proof.core, h]

/-- Two runs one after the other. -/
theorem runs_add {m : Nat} {s t : State} (h : runs m s = .next t) (n : Nat) : runs (m + n) s = runs n t := by
  induction m generalizing s with
  | zero => simp only [runs_zero, Host.Outcome.next.injEq] at h; subst h; simp
  | succ m ih =>
    have e : m + 1 + n = (m + n) + 1 := by omega
    rw [e]
    cases hs : step s with
    | next u =>
      rw [runs_succ m hs] at h
      rw [runs_succ _ hs, ih h]
    | fault f => simp [runs, Host.Core.run, Sys2Proof.core, hs] at h
    | refused f => simp [runs, Host.Core.run, Sys2Proof.core, hs] at h

/-! ## Frames and limits -/

/-- The frame register's content, where 30 R61 holds. -/
theorem frame_of_agrees {s : State} {c : Cmd} {i : Fin 6} (h : frameAgrees s = true) (hp : s.phase = .cmdFrame c i) :
    s.txFrame = c.frame s.argl := by
  simpa [frameAgrees, hp] using h

/-- A limit that is reached is not 0 and is the count. -/
theorem limitReached_iff (l n : Nat) : limitReached l n = true ↔ l ≠ 0 ∧ n = l := by
  simp [limitReached]

end Sys2Proof.Machine
end

