-- ==== Sys2Proof/Laws/PerInstr.lean ====
section
/-! SUPPORT. Statements made per instruction. TablePattern: the word the encoder writes for an instruction has, under the
mask of its row of spec/opcode_table.json, the row's match value. The masks and match values are copied from the
table. -/

namespace Sys2Proof.Laws

/-- The bits of a code, numbered as the table numbers them. -/
def codeBits : Code → BitVec 48
  | .ctrl v => v.setWidth 48
  | .frame f => f
  | .sent t | .r1Poll t | .tokenWait t | .dataResponse t => t.setWidth 48

/-- The row's mask and match, as in spec/opcode_table.json. -/
def tablePattern : Instr → BitVec 48 × BitVec 48
  | .init => (0xF, 0x1)
  | .getBlocksNumber => (0xF, 0x2)
  | .readSingleBlock => (0xF, 0x3)
  | .writeSingleBlock => (0xF, 0x4)
  | .readBegin => (0xF, 0x5)
  | .readData => (0xF, 0x6)
  | .readEnd => (0xF, 0x7)
  | .writeBegin => (0xF, 0x8)
  | .writeData => (0xF, 0x9)
  | .writeEnd => (0xF, 0xA)
  | .unselect => (0xF, 0xB)
  | .reserved0 => (0xF, 0x0)
  | .reservedC => (0xF, 0xC)
  | .reservedD => (0xF, 0xD)
  | .reservedE => (0xF, 0xE)
  | .reservedF => (0xF, 0xF)
  | .cmd0 => (0xFFFFFFFFFFFF, 0x400000000095)
  | .cmd8 => (0xFFFFFFFFFFFF, 0x48000001AA87)
  | .cmd9 => (0xFFFFFFFFFFFF, 0x4900000000AF)
  | .cmd12 => (0xFFFFFFFFFFFF, 0x4C0000000061)
  | .cmd55 => (0xFFFFFFFFFFFF, 0x770000000065)
  | .acmd41 => (0xFFFFFFFFFFFF, 0x694000000077)
  | .cmd58 => (0xFFFFFFFFFFFF, 0x7A00000000FD)
  | .cmd17 _ _ => (0xFF0000000001, 0x510000000001)
  | .cmd18 _ _ => (0xFF0000000001, 0x520000000001)
  | .cmd24 _ _ => (0xFF0000000001, 0x580000000001)
  | .cmd25 _ _ => (0xFF0000000001, 0x590000000001)
  | .tokenStartBlockRead => (0xFF, 0xFE)
  | .tokenStartBlockWriteSingle => (0xFF, 0xFE)
  | .tokenStartBlockWriteMulti => (0xFF, 0xFC)
  | .tokenStopTran => (0xFF, 0xFD)
  | .dataResponseAccepted _ => (0x1F, 0x5)
  | .r1 _ => (0x80, 0x0)
  | .filler => (0xFF, 0xFF)

namespace TablePattern

/-- The encoded word matches its row. -/
def Statement (i : Instr) : Prop := codeBits (encode i) &&& (tablePattern i).1 = (tablePattern i).2

theorem init : Statement .init := by unfold Statement; decide

theorem getBlocksNumber : Statement .getBlocksNumber := by unfold Statement; decide

theorem readSingleBlock : Statement .readSingleBlock := by unfold Statement; decide

theorem writeSingleBlock : Statement .writeSingleBlock := by unfold Statement; decide

theorem readBegin : Statement .readBegin := by unfold Statement; decide

theorem readData : Statement .readData := by unfold Statement; decide

theorem readEnd : Statement .readEnd := by unfold Statement; decide

theorem writeBegin : Statement .writeBegin := by unfold Statement; decide

theorem writeData : Statement .writeData := by unfold Statement; decide

theorem writeEnd : Statement .writeEnd := by unfold Statement; decide

theorem unselect : Statement .unselect := by unfold Statement; decide

theorem reserved0 : Statement .reserved0 := by unfold Statement; decide

theorem reservedC : Statement .reservedC := by unfold Statement; decide

theorem reservedD : Statement .reservedD := by unfold Statement; decide

theorem reservedE : Statement .reservedE := by unfold Statement; decide

theorem reservedF : Statement .reservedF := by unfold Statement; decide

theorem cmd0 : Statement .cmd0 := by unfold Statement; decide

theorem cmd8 : Statement .cmd8 := by unfold Statement; decide

theorem cmd9 : Statement .cmd9 := by unfold Statement; decide

theorem cmd12 : Statement .cmd12 := by unfold Statement; decide

theorem cmd55 : Statement .cmd55 := by unfold Statement; decide

theorem acmd41 : Statement .acmd41 := by unfold Statement; decide

theorem cmd58 : Statement .cmd58 := by unfold Statement; decide

theorem cmd17 (block : Word) (crc : BitVec 7) : Statement (.cmd17 block crc) := frameWord_pattern 17#6 block crc

theorem cmd18 (block : Word) (crc : BitVec 7) : Statement (.cmd18 block crc) := frameWord_pattern 18#6 block crc

theorem cmd24 (block : Word) (crc : BitVec 7) : Statement (.cmd24 block crc) := frameWord_pattern 24#6 block crc

theorem cmd25 (block : Word) (crc : BitVec 7) : Statement (.cmd25 block crc) := frameWord_pattern 25#6 block crc

theorem tokenStartBlockRead : Statement .tokenStartBlockRead := by unfold Statement; decide

theorem tokenStartBlockWriteSingle : Statement .tokenStartBlockWriteSingle := by unfold Statement; decide

theorem tokenStartBlockWriteMulti : Statement .tokenStartBlockWriteMulti := by unfold Statement; decide

theorem tokenStopTran : Statement .tokenStopTran := by unfold Statement; decide

theorem dataResponseAccepted (ignored : BitVec 3) : Statement (.dataResponseAccepted ignored) := by unfold Statement; revert ignored; decide

theorem r1 (flags : BitVec 7) : Statement (.r1 flags) := by unfold Statement; revert flags; decide

theorem filler : Statement .filler := by unfold Statement; decide

end TablePattern

end Sys2Proof.Laws
end

