-- ==== Sys2Proof/Laws/Sequencer.lean ====
section
/-! SUPPORT. The frames of the sequencer's pieces: each lemma lists the fields its piece leaves alone; the fields it does not
list are the ones the piece may write. -/

namespace Sys2Proof.Machine

@[simp] theorem State.afterDummy_frame (s : State) (n : Nat) :
    (s.afterDummy n).params = s.params ∧ (s.afterDummy n).arg = s.arg ∧ (s.afterDummy n).buf = s.buf ∧
    (s.afterDummy n).resp = s.resp ∧ (s.afterDummy n).csd = s.csd ∧ (s.afterDummy n).blockCount = s.blockCount ∧
    (s.afterDummy n).result = s.result ∧ (s.afterDummy n).busy = s.busy ∧ (s.afterDummy n).done = s.done ∧
    (s.afterDummy n).cs = s.cs ∧ (s.afterDummy n).initialized = s.initialized ∧
    (s.afterDummy n).stream = s.stream ∧ (s.afterDummy n).curCmd = s.curCmd ∧ (s.afterDummy n).r1 = s.r1 ∧
    (s.afterDummy n).dresp = s.dresp ∧ (s.afterDummy n).token = s.token ∧ (s.afterDummy n).opl = s.opl ∧
    (s.afterDummy n).argl = s.argl ∧ (s.afterDummy n).pollCnt = s.pollCnt ∧
    (s.afterDummy n).roundCnt = s.roundCnt ∧ (s.afterDummy n).byteCnt = s.byteCnt ∧
    (s.afterDummy n).crc16Acc = s.crc16Acc ∧ (s.afterDummy n).txFrame = s.txFrame ∧
    (s.afterDummy n).crcHi = s.crcHi ∧ (s.afterDummy n).draws = s.draws ∧ (s.afterDummy n).bufDraw = s.bufDraw ∧
    (s.afterDummy n).csLine = s.csLine ∧ (s.afterDummy n).hostIn = s.hostIn ∧
    (s.afterDummy n).hostData = s.hostData ∧ (s.afterDummy n).linkIn = s.linkIn ∧
    (s.afterDummy n).trace = s.trace := by
  unfold State.afterDummy; split <;> simp

@[simp] theorem State.afterFrameByte_frame (s : State) (c : Cmd) (i : Fin 6) :
    (s.afterFrameByte c i).params = s.params ∧ (s.afterFrameByte c i).arg = s.arg ∧
    (s.afterFrameByte c i).buf = s.buf ∧ (s.afterFrameByte c i).resp = s.resp ∧
    (s.afterFrameByte c i).csd = s.csd ∧ (s.afterFrameByte c i).blockCount = s.blockCount ∧
    (s.afterFrameByte c i).result = s.result ∧ (s.afterFrameByte c i).busy = s.busy ∧
    (s.afterFrameByte c i).done = s.done ∧ (s.afterFrameByte c i).cs = s.cs ∧
    (s.afterFrameByte c i).initialized = s.initialized ∧ (s.afterFrameByte c i).stream = s.stream ∧
    (s.afterFrameByte c i).curCmd = s.curCmd ∧ (s.afterFrameByte c i).r1 = s.r1 ∧
    (s.afterFrameByte c i).dresp = s.dresp ∧ (s.afterFrameByte c i).token = s.token ∧
    (s.afterFrameByte c i).opl = s.opl ∧ (s.afterFrameByte c i).argl = s.argl ∧
    (s.afterFrameByte c i).roundCnt = s.roundCnt ∧ (s.afterFrameByte c i).byteCnt = s.byteCnt ∧
    (s.afterFrameByte c i).crc16Acc = s.crc16Acc ∧ (s.afterFrameByte c i).crcHi = s.crcHi ∧
    (s.afterFrameByte c i).draws = s.draws ∧ (s.afterFrameByte c i).bufDraw = s.bufDraw ∧
    (s.afterFrameByte c i).csLine = s.csLine ∧ (s.afterFrameByte c i).hostIn = s.hostIn ∧
    (s.afterFrameByte c i).hostData = s.hostData ∧ (s.afterFrameByte c i).linkIn = s.linkIn ∧
    (s.afterFrameByte c i).trace = s.trace := by
  unfold State.afterFrameByte; split_ifs <;> simp

@[simp] theorem State.afterAcmd41_frame (s : State) (r : Byte) :
    (s.afterAcmd41 r).params = s.params ∧ (s.afterAcmd41 r).arg = s.arg ∧ (s.afterAcmd41 r).buf = s.buf ∧
    (s.afterAcmd41 r).resp = s.resp ∧ (s.afterAcmd41 r).csd = s.csd ∧ (s.afterAcmd41 r).blockCount = s.blockCount ∧
    (s.afterAcmd41 r).result = s.result ∧ (s.afterAcmd41 r).busy = s.busy ∧ (s.afterAcmd41 r).done = s.done ∧
    (s.afterAcmd41 r).cs = s.cs ∧ (s.afterAcmd41 r).initialized = s.initialized ∧
    (s.afterAcmd41 r).stream = s.stream ∧ (s.afterAcmd41 r).r1 = s.r1 ∧ (s.afterAcmd41 r).dresp = s.dresp ∧
    (s.afterAcmd41 r).token = s.token ∧ (s.afterAcmd41 r).opl = s.opl ∧ (s.afterAcmd41 r).argl = s.argl ∧
    (s.afterAcmd41 r).byteCnt = s.byteCnt ∧ (s.afterAcmd41 r).crc16Acc = s.crc16Acc ∧
    (s.afterAcmd41 r).crcHi = s.crcHi ∧ (s.afterAcmd41 r).draws = s.draws ∧ (s.afterAcmd41 r).bufDraw = s.bufDraw ∧
    (s.afterAcmd41 r).csLine = s.csLine ∧ (s.afterAcmd41 r).hostIn = s.hostIn ∧
    (s.afterAcmd41 r).hostData = s.hostData ∧ (s.afterAcmd41 r).linkIn = s.linkIn ∧
    (s.afterAcmd41 r).trace = s.trace := by
  unfold State.afterAcmd41; dsimp only; split_ifs <;> simp

@[simp] theorem State.afterCommand_frame (s : State) (c : Cmd) :
    (s.afterCommand c).params = s.params ∧ (s.afterCommand c).arg = s.arg ∧ (s.afterCommand c).buf = s.buf ∧
    (s.afterCommand c).resp = s.resp ∧ (s.afterCommand c).csd = s.csd ∧
    (s.afterCommand c).blockCount = s.blockCount ∧ (s.afterCommand c).result = s.result ∧
    (s.afterCommand c).busy = s.busy ∧ (s.afterCommand c).done = s.done ∧ (s.afterCommand c).cs = s.cs ∧
    (s.afterCommand c).initialized = s.initialized ∧ (s.afterCommand c).stream = s.stream ∧
    (s.afterCommand c).r1 = s.r1 ∧ (s.afterCommand c).dresp = s.dresp ∧ (s.afterCommand c).token = s.token ∧
    (s.afterCommand c).opl = s.opl ∧ (s.afterCommand c).argl = s.argl ∧ (s.afterCommand c).roundCnt = s.roundCnt ∧
    (s.afterCommand c).crc16Acc = s.crc16Acc ∧
    (s.afterCommand c).crcHi = s.crcHi ∧ (s.afterCommand c).draws = s.draws ∧
    (s.afterCommand c).bufDraw = s.bufDraw ∧ (s.afterCommand c).csLine = s.csLine ∧
    (s.afterCommand c).hostIn = s.hostIn ∧ (s.afterCommand c).hostData = s.hostData ∧
    (s.afterCommand c).linkIn = s.linkIn ∧ (s.afterCommand c).trace = s.trace := by
  cases c <;> simp [State.afterCommand]

@[simp] theorem State.checkR1_frame (s : State) (c : Cmd) (r : Byte) :
    (s.checkR1 c r).params = s.params ∧ (s.checkR1 c r).arg = s.arg ∧ (s.checkR1 c r).buf = s.buf ∧
    (s.checkR1 c r).resp = s.resp ∧ (s.checkR1 c r).csd = s.csd ∧ (s.checkR1 c r).blockCount = s.blockCount ∧
    (s.checkR1 c r).result = s.result ∧ (s.checkR1 c r).busy = s.busy ∧ (s.checkR1 c r).done = s.done ∧
    (s.checkR1 c r).cs = s.cs ∧ (s.checkR1 c r).initialized = s.initialized ∧ (s.checkR1 c r).stream = s.stream ∧
    (s.checkR1 c r).r1 = s.r1 ∧ (s.checkR1 c r).dresp = s.dresp ∧ (s.checkR1 c r).token = s.token ∧
    (s.checkR1 c r).opl = s.opl ∧ (s.checkR1 c r).argl = s.argl ∧ (s.checkR1 c r).crc16Acc = s.crc16Acc ∧
    (s.checkR1 c r).crcHi = s.crcHi ∧
    (s.checkR1 c r).draws = s.draws ∧ (s.checkR1 c r).bufDraw = s.bufDraw ∧ (s.checkR1 c r).csLine = s.csLine ∧
    (s.checkR1 c r).hostIn = s.hostIn ∧ (s.checkR1 c r).hostData = s.hostData ∧ (s.checkR1 c r).linkIn = s.linkIn ∧
    (s.checkR1 c r).trace = s.trace := by
  unfold State.checkR1; split_ifs <;> simp

@[simp] theorem State.afterR1Poll_frame (s : State) (c : Cmd) (r : Byte) :
    (s.afterR1Poll c r).params = s.params ∧ (s.afterR1Poll c r).arg = s.arg ∧ (s.afterR1Poll c r).buf = s.buf ∧
    (s.afterR1Poll c r).resp = s.resp ∧ (s.afterR1Poll c r).csd = s.csd ∧
    (s.afterR1Poll c r).blockCount = s.blockCount ∧ (s.afterR1Poll c r).result = s.result ∧
    (s.afterR1Poll c r).busy = s.busy ∧ (s.afterR1Poll c r).done = s.done ∧ (s.afterR1Poll c r).cs = s.cs ∧
    (s.afterR1Poll c r).initialized = s.initialized ∧ (s.afterR1Poll c r).stream = s.stream ∧
    (s.afterR1Poll c r).dresp = s.dresp ∧ (s.afterR1Poll c r).token = s.token ∧ (s.afterR1Poll c r).opl = s.opl ∧
    (s.afterR1Poll c r).argl = s.argl ∧ (s.afterR1Poll c r).crc16Acc = s.crc16Acc ∧
    (s.afterR1Poll c r).crcHi = s.crcHi ∧ (s.afterR1Poll c r).draws = s.draws ∧
    (s.afterR1Poll c r).bufDraw = s.bufDraw ∧ (s.afterR1Poll c r).csLine = s.csLine ∧
    (s.afterR1Poll c r).hostIn = s.hostIn ∧ (s.afterR1Poll c r).hostData = s.hostData ∧
    (s.afterR1Poll c r).linkIn = s.linkIn ∧ (s.afterR1Poll c r).trace = s.trace := by
  unfold State.afterR1Poll; dsimp only; split_ifs <;> simp

@[simp] theorem State.checkPayload_frame (s : State) (p : Payload) :
    (s.checkPayload p).params = s.params ∧ (s.checkPayload p).arg = s.arg ∧ (s.checkPayload p).buf = s.buf ∧
    (s.checkPayload p).resp = s.resp ∧ (s.checkPayload p).csd = s.csd ∧
    (s.checkPayload p).blockCount = s.blockCount ∧ (s.checkPayload p).result = s.result ∧
    (s.checkPayload p).busy = s.busy ∧ (s.checkPayload p).done = s.done ∧ (s.checkPayload p).cs = s.cs ∧
    (s.checkPayload p).initialized = s.initialized ∧ (s.checkPayload p).stream = s.stream ∧
    (s.checkPayload p).r1 = s.r1 ∧ (s.checkPayload p).dresp = s.dresp ∧ (s.checkPayload p).token = s.token ∧
    (s.checkPayload p).opl = s.opl ∧ (s.checkPayload p).argl = s.argl ∧ (s.checkPayload p).byteCnt = s.byteCnt ∧
    (s.checkPayload p).crc16Acc = s.crc16Acc ∧ (s.checkPayload p).crcHi = s.crcHi ∧
    (s.checkPayload p).draws = s.draws ∧ (s.checkPayload p).bufDraw = s.bufDraw ∧
    (s.checkPayload p).csLine = s.csLine ∧ (s.checkPayload p).hostIn = s.hostIn ∧
    (s.checkPayload p).hostData = s.hostData ∧ (s.checkPayload p).linkIn = s.linkIn ∧
    (s.checkPayload p).trace = s.trace := by
  cases p <;> unfold State.checkPayload <;> dsimp only <;> split_ifs <;> simp

@[simp] theorem State.afterPayloadByte_frame (s : State) (p : Payload) (r : Byte) :
    (s.afterPayloadByte p r).params = s.params ∧ (s.afterPayloadByte p r).arg = s.arg ∧
    (s.afterPayloadByte p r).buf = s.buf ∧ (s.afterPayloadByte p r).csd = s.csd ∧
    (s.afterPayloadByte p r).blockCount = s.blockCount ∧ (s.afterPayloadByte p r).result = s.result ∧
    (s.afterPayloadByte p r).busy = s.busy ∧ (s.afterPayloadByte p r).done = s.done ∧
    (s.afterPayloadByte p r).cs = s.cs ∧ (s.afterPayloadByte p r).initialized = s.initialized ∧
    (s.afterPayloadByte p r).stream = s.stream ∧ (s.afterPayloadByte p r).r1 = s.r1 ∧
    (s.afterPayloadByte p r).dresp = s.dresp ∧ (s.afterPayloadByte p r).token = s.token ∧
    (s.afterPayloadByte p r).opl = s.opl ∧ (s.afterPayloadByte p r).argl = s.argl ∧
    (s.afterPayloadByte p r).crc16Acc = s.crc16Acc ∧ (s.afterPayloadByte p r).crcHi = s.crcHi ∧
    (s.afterPayloadByte p r).draws = s.draws ∧ (s.afterPayloadByte p r).bufDraw = s.bufDraw ∧
    (s.afterPayloadByte p r).csLine = s.csLine ∧ (s.afterPayloadByte p r).hostIn = s.hostIn ∧
    (s.afterPayloadByte p r).hostData = s.hostData ∧ (s.afterPayloadByte p r).linkIn = s.linkIn ∧
    (s.afterPayloadByte p r).trace = s.trace := by
  unfold State.afterPayloadByte; dsimp only; split_ifs <;> simp

@[simp] theorem State.afterTokenPoll_frame (s : State) (b : BlockIn) (r : Byte) :
    (s.afterTokenPoll b r).params = s.params ∧ (s.afterTokenPoll b r).arg = s.arg ∧
    (s.afterTokenPoll b r).buf = s.buf ∧ (s.afterTokenPoll b r).resp = s.resp ∧
    (s.afterTokenPoll b r).csd = s.csd ∧ (s.afterTokenPoll b r).blockCount = s.blockCount ∧
    (s.afterTokenPoll b r).result = s.result ∧ (s.afterTokenPoll b r).busy = s.busy ∧
    (s.afterTokenPoll b r).done = s.done ∧ (s.afterTokenPoll b r).cs = s.cs ∧
    (s.afterTokenPoll b r).initialized = s.initialized ∧ (s.afterTokenPoll b r).stream = s.stream ∧
    (s.afterTokenPoll b r).curCmd = s.curCmd ∧ (s.afterTokenPoll b r).r1 = s.r1 ∧
    (s.afterTokenPoll b r).dresp = s.dresp ∧ (s.afterTokenPoll b r).opl = s.opl ∧
    (s.afterTokenPoll b r).argl = s.argl ∧ (s.afterTokenPoll b r).roundCnt = s.roundCnt ∧
    (s.afterTokenPoll b r).txFrame = s.txFrame ∧ (s.afterTokenPoll b r).crcHi = s.crcHi ∧
    (s.afterTokenPoll b r).draws = s.draws ∧ (s.afterTokenPoll b r).bufDraw = s.bufDraw ∧
    (s.afterTokenPoll b r).csLine = s.csLine ∧ (s.afterTokenPoll b r).hostIn = s.hostIn ∧
    (s.afterTokenPoll b r).hostData = s.hostData ∧ (s.afterTokenPoll b r).linkIn = s.linkIn ∧
    (s.afterTokenPoll b r).trace = s.trace := by
  unfold State.afterTokenPoll; dsimp only; split_ifs <;> simp

@[simp] theorem State.storeByte_frame (s : State) (b : BlockIn) (r : Byte) :
    (s.storeByte b r).params = s.params ∧ (s.storeByte b r).arg = s.arg ∧ (s.storeByte b r).resp = s.resp ∧
    (s.storeByte b r).blockCount = s.blockCount ∧ (s.storeByte b r).result = s.result ∧
    (s.storeByte b r).busy = s.busy ∧ (s.storeByte b r).done = s.done ∧ (s.storeByte b r).cs = s.cs ∧
    (s.storeByte b r).initialized = s.initialized ∧ (s.storeByte b r).stream = s.stream ∧
    (s.storeByte b r).curCmd = s.curCmd ∧ (s.storeByte b r).r1 = s.r1 ∧ (s.storeByte b r).dresp = s.dresp ∧
    (s.storeByte b r).token = s.token ∧ (s.storeByte b r).opl = s.opl ∧ (s.storeByte b r).argl = s.argl ∧
    (s.storeByte b r).phase = s.phase ∧ (s.storeByte b r).pollCnt = s.pollCnt ∧
    (s.storeByte b r).roundCnt = s.roundCnt ∧ (s.storeByte b r).byteCnt = s.byteCnt ∧
    (s.storeByte b r).crc16Acc = s.crc16Acc ∧ (s.storeByte b r).txFrame = s.txFrame ∧
    (s.storeByte b r).crcHi = s.crcHi ∧ (s.storeByte b r).draws = s.draws ∧ (s.storeByte b r).bufDraw = s.bufDraw ∧
    (s.storeByte b r).csLine = s.csLine ∧ (s.storeByte b r).hostIn = s.hostIn ∧
    (s.storeByte b r).hostData = s.hostData ∧ (s.storeByte b r).linkIn = s.linkIn ∧
    (s.storeByte b r).trace = s.trace := by
  cases b <;> simp [State.storeByte]

@[simp] theorem State.afterDataIn_frame (s : State) (b : BlockIn) (r : Byte) :
    (s.afterDataIn b r).params = s.params ∧ (s.afterDataIn b r).arg = s.arg ∧ (s.afterDataIn b r).resp = s.resp ∧
    (s.afterDataIn b r).blockCount = s.blockCount ∧ (s.afterDataIn b r).result = s.result ∧
    (s.afterDataIn b r).busy = s.busy ∧ (s.afterDataIn b r).done = s.done ∧ (s.afterDataIn b r).cs = s.cs ∧
    (s.afterDataIn b r).initialized = s.initialized ∧ (s.afterDataIn b r).stream = s.stream ∧
    (s.afterDataIn b r).curCmd = s.curCmd ∧ (s.afterDataIn b r).r1 = s.r1 ∧ (s.afterDataIn b r).dresp = s.dresp ∧
    (s.afterDataIn b r).token = s.token ∧ (s.afterDataIn b r).opl = s.opl ∧ (s.afterDataIn b r).argl = s.argl ∧
    (s.afterDataIn b r).pollCnt = s.pollCnt ∧ (s.afterDataIn b r).roundCnt = s.roundCnt ∧
    (s.afterDataIn b r).txFrame = s.txFrame ∧ (s.afterDataIn b r).crcHi = s.crcHi ∧
    (s.afterDataIn b r).draws = s.draws ∧ (s.afterDataIn b r).bufDraw = s.bufDraw ∧
    (s.afterDataIn b r).csLine = s.csLine ∧ (s.afterDataIn b r).hostIn = s.hostIn ∧
    (s.afterDataIn b r).hostData = s.hostData ∧ (s.afterDataIn b r).linkIn = s.linkIn ∧
    (s.afterDataIn b r).trace = s.trace := by
  unfold State.afterDataIn; dsimp only; split_ifs <;> simp

@[simp] theorem State.afterCrcHiIn_frame (s : State) (b : BlockIn) (r : Byte) :
    (s.afterCrcHiIn b r).params = s.params ∧ (s.afterCrcHiIn b r).arg = s.arg ∧ (s.afterCrcHiIn b r).buf = s.buf ∧
    (s.afterCrcHiIn b r).resp = s.resp ∧ (s.afterCrcHiIn b r).csd = s.csd ∧
    (s.afterCrcHiIn b r).blockCount = s.blockCount ∧ (s.afterCrcHiIn b r).result = s.result ∧
    (s.afterCrcHiIn b r).busy = s.busy ∧ (s.afterCrcHiIn b r).done = s.done ∧ (s.afterCrcHiIn b r).cs = s.cs ∧
    (s.afterCrcHiIn b r).initialized = s.initialized ∧ (s.afterCrcHiIn b r).stream = s.stream ∧
    (s.afterCrcHiIn b r).curCmd = s.curCmd ∧ (s.afterCrcHiIn b r).r1 = s.r1 ∧
    (s.afterCrcHiIn b r).dresp = s.dresp ∧ (s.afterCrcHiIn b r).token = s.token ∧
    (s.afterCrcHiIn b r).opl = s.opl ∧ (s.afterCrcHiIn b r).argl = s.argl ∧
    (s.afterCrcHiIn b r).pollCnt = s.pollCnt ∧ (s.afterCrcHiIn b r).roundCnt = s.roundCnt ∧
    (s.afterCrcHiIn b r).crc16Acc = s.crc16Acc ∧ (s.afterCrcHiIn b r).txFrame = s.txFrame ∧
    (s.afterCrcHiIn b r).draws = s.draws ∧ (s.afterCrcHiIn b r).bufDraw = s.bufDraw ∧
    (s.afterCrcHiIn b r).csLine = s.csLine ∧ (s.afterCrcHiIn b r).hostIn = s.hostIn ∧
    (s.afterCrcHiIn b r).hostData = s.hostData ∧ (s.afterCrcHiIn b r).linkIn = s.linkIn ∧
    (s.afterCrcHiIn b r).trace = s.trace := by
  simp [State.afterCrcHiIn]

@[simp] theorem State.blockReceived_frame (s : State) (b : BlockIn) :
    (s.blockReceived b).params = s.params ∧ (s.blockReceived b).arg = s.arg ∧ (s.blockReceived b).buf = s.buf ∧
    (s.blockReceived b).resp = s.resp ∧ (s.blockReceived b).csd = s.csd ∧ (s.blockReceived b).result = s.result ∧
    (s.blockReceived b).busy = s.busy ∧ (s.blockReceived b).done = s.done ∧ (s.blockReceived b).cs = s.cs ∧
    (s.blockReceived b).initialized = s.initialized ∧ (s.blockReceived b).stream = s.stream ∧
    (s.blockReceived b).curCmd = s.curCmd ∧ (s.blockReceived b).r1 = s.r1 ∧ (s.blockReceived b).dresp = s.dresp ∧
    (s.blockReceived b).token = s.token ∧ (s.blockReceived b).opl = s.opl ∧ (s.blockReceived b).argl = s.argl ∧
    (s.blockReceived b).pollCnt = s.pollCnt ∧ (s.blockReceived b).roundCnt = s.roundCnt ∧
    (s.blockReceived b).byteCnt = s.byteCnt ∧ (s.blockReceived b).crc16Acc = s.crc16Acc ∧
    (s.blockReceived b).txFrame = s.txFrame ∧ (s.blockReceived b).crcHi = s.crcHi ∧
    (s.blockReceived b).draws = s.draws ∧ (s.blockReceived b).bufDraw = s.bufDraw ∧
    (s.blockReceived b).csLine = s.csLine ∧ (s.blockReceived b).hostIn = s.hostIn ∧
    (s.blockReceived b).hostData = s.hostData ∧ (s.blockReceived b).linkIn = s.linkIn ∧
    (s.blockReceived b).trace = s.trace := by
  cases b <;> unfold State.blockReceived <;> dsimp only <;> (try split_ifs) <;> simp

@[simp] theorem State.afterCrcLoIn_frame (s : State) (b : BlockIn) (r : Byte) :
    (s.afterCrcLoIn b r).params = s.params ∧ (s.afterCrcLoIn b r).arg = s.arg ∧ (s.afterCrcLoIn b r).buf = s.buf ∧
    (s.afterCrcLoIn b r).resp = s.resp ∧ (s.afterCrcLoIn b r).csd = s.csd ∧
    (s.afterCrcLoIn b r).result = s.result ∧ (s.afterCrcLoIn b r).busy = s.busy ∧
    (s.afterCrcLoIn b r).done = s.done ∧ (s.afterCrcLoIn b r).cs = s.cs ∧
    (s.afterCrcLoIn b r).initialized = s.initialized ∧ (s.afterCrcLoIn b r).stream = s.stream ∧
    (s.afterCrcLoIn b r).curCmd = s.curCmd ∧ (s.afterCrcLoIn b r).r1 = s.r1 ∧
    (s.afterCrcLoIn b r).dresp = s.dresp ∧ (s.afterCrcLoIn b r).token = s.token ∧
    (s.afterCrcLoIn b r).opl = s.opl ∧ (s.afterCrcLoIn b r).argl = s.argl ∧
    (s.afterCrcLoIn b r).pollCnt = s.pollCnt ∧ (s.afterCrcLoIn b r).roundCnt = s.roundCnt ∧
    (s.afterCrcLoIn b r).byteCnt = s.byteCnt ∧ (s.afterCrcLoIn b r).crc16Acc = s.crc16Acc ∧
    (s.afterCrcLoIn b r).txFrame = s.txFrame ∧ (s.afterCrcLoIn b r).draws = s.draws ∧
    (s.afterCrcLoIn b r).bufDraw = s.bufDraw ∧ (s.afterCrcLoIn b r).csLine = s.csLine ∧
    (s.afterCrcLoIn b r).hostIn = s.hostIn ∧ (s.afterCrcLoIn b r).hostData = s.hostData ∧
    (s.afterCrcLoIn b r).linkIn = s.linkIn ∧ (s.afterCrcLoIn b r).trace = s.trace := by
  unfold State.afterCrcLoIn; dsimp only; split_ifs <;> simp

@[simp] theorem State.afterDataOut_frame (s : State) (b : BlockOut) :
    (s.afterDataOut b).params = s.params ∧ (s.afterDataOut b).arg = s.arg ∧ (s.afterDataOut b).buf = s.buf ∧
    (s.afterDataOut b).resp = s.resp ∧ (s.afterDataOut b).csd = s.csd ∧
    (s.afterDataOut b).blockCount = s.blockCount ∧ (s.afterDataOut b).result = s.result ∧
    (s.afterDataOut b).busy = s.busy ∧ (s.afterDataOut b).done = s.done ∧ (s.afterDataOut b).cs = s.cs ∧
    (s.afterDataOut b).initialized = s.initialized ∧ (s.afterDataOut b).stream = s.stream ∧
    (s.afterDataOut b).curCmd = s.curCmd ∧ (s.afterDataOut b).r1 = s.r1 ∧ (s.afterDataOut b).dresp = s.dresp ∧
    (s.afterDataOut b).token = s.token ∧ (s.afterDataOut b).opl = s.opl ∧ (s.afterDataOut b).argl = s.argl ∧
    (s.afterDataOut b).pollCnt = s.pollCnt ∧ (s.afterDataOut b).roundCnt = s.roundCnt ∧
    (s.afterDataOut b).txFrame = s.txFrame ∧ (s.afterDataOut b).crcHi = s.crcHi ∧
    (s.afterDataOut b).draws = s.draws ∧ (s.afterDataOut b).bufDraw = s.bufDraw ∧
    (s.afterDataOut b).csLine = s.csLine ∧ (s.afterDataOut b).hostIn = s.hostIn ∧
    (s.afterDataOut b).hostData = s.hostData ∧ (s.afterDataOut b).linkIn = s.linkIn ∧
    (s.afterDataOut b).trace = s.trace := by
  unfold State.afterDataOut; dsimp only; split_ifs <;> simp

@[simp] theorem State.afterDataResponse_frame (s : State) (b : BlockOut) (r : Byte) :
    (s.afterDataResponse b r).params = s.params ∧ (s.afterDataResponse b r).arg = s.arg ∧
    (s.afterDataResponse b r).buf = s.buf ∧ (s.afterDataResponse b r).resp = s.resp ∧
    (s.afterDataResponse b r).csd = s.csd ∧ (s.afterDataResponse b r).blockCount = s.blockCount ∧
    (s.afterDataResponse b r).result = s.result ∧ (s.afterDataResponse b r).busy = s.busy ∧
    (s.afterDataResponse b r).done = s.done ∧ (s.afterDataResponse b r).cs = s.cs ∧
    (s.afterDataResponse b r).initialized = s.initialized ∧ (s.afterDataResponse b r).stream = s.stream ∧
    (s.afterDataResponse b r).curCmd = s.curCmd ∧ (s.afterDataResponse b r).r1 = s.r1 ∧
    (s.afterDataResponse b r).token = s.token ∧ (s.afterDataResponse b r).opl = s.opl ∧
    (s.afterDataResponse b r).argl = s.argl ∧ (s.afterDataResponse b r).roundCnt = s.roundCnt ∧
    (s.afterDataResponse b r).byteCnt = s.byteCnt ∧ (s.afterDataResponse b r).crc16Acc = s.crc16Acc ∧
    (s.afterDataResponse b r).txFrame = s.txFrame ∧ (s.afterDataResponse b r).crcHi = s.crcHi ∧
    (s.afterDataResponse b r).draws = s.draws ∧ (s.afterDataResponse b r).bufDraw = s.bufDraw ∧
    (s.afterDataResponse b r).csLine = s.csLine ∧ (s.afterDataResponse b r).hostIn = s.hostIn ∧
    (s.afterDataResponse b r).hostData = s.hostData ∧ (s.afterDataResponse b r).linkIn = s.linkIn ∧
    (s.afterDataResponse b r).trace = s.trace := by
  unfold State.afterDataResponse; dsimp only; split_ifs <;> simp

@[simp] theorem State.afterSelect_frame (s : State) (op : Op) :
    (s.afterSelect op).params = s.params ∧ (s.afterSelect op).arg = s.arg ∧ (s.afterSelect op).buf = s.buf ∧
    (s.afterSelect op).resp = s.resp ∧ (s.afterSelect op).csd = s.csd ∧
    (s.afterSelect op).blockCount = s.blockCount ∧ (s.afterSelect op).result = s.result ∧
    (s.afterSelect op).busy = s.busy ∧ (s.afterSelect op).done = s.done ∧ (s.afterSelect op).cs = s.cs ∧
    (s.afterSelect op).initialized = s.initialized ∧ (s.afterSelect op).stream = s.stream ∧
    (s.afterSelect op).r1 = s.r1 ∧ (s.afterSelect op).dresp = s.dresp ∧ (s.afterSelect op).token = s.token ∧
    (s.afterSelect op).opl = s.opl ∧ (s.afterSelect op).argl = s.argl ∧ (s.afterSelect op).roundCnt = s.roundCnt ∧
    (s.afterSelect op).byteCnt = s.byteCnt ∧ (s.afterSelect op).crc16Acc = s.crc16Acc ∧
    (s.afterSelect op).crcHi = s.crcHi ∧ (s.afterSelect op).draws = s.draws ∧
    (s.afterSelect op).bufDraw = s.bufDraw ∧ (s.afterSelect op).csLine = s.csLine ∧
    (s.afterSelect op).hostIn = s.hostIn ∧ (s.afterSelect op).hostData = s.hostData ∧
    (s.afterSelect op).linkIn = s.linkIn ∧ (s.afterSelect op).trace = s.trace := by
  cases op <;> simp [State.afterSelect]

@[simp] theorem State.afterInitDeselect_frame (s : State) :
    s.afterInitDeselect.params = s.params ∧ s.afterInitDeselect.arg = s.arg ∧ s.afterInitDeselect.buf = s.buf ∧
    s.afterInitDeselect.resp = s.resp ∧ s.afterInitDeselect.csd = s.csd ∧
    s.afterInitDeselect.blockCount = s.blockCount ∧ s.afterInitDeselect.result = s.result ∧
    s.afterInitDeselect.busy = s.busy ∧ s.afterInitDeselect.done = s.done ∧ s.afterInitDeselect.cs = s.cs ∧
    s.afterInitDeselect.initialized = s.initialized ∧ s.afterInitDeselect.stream = s.stream ∧
    s.afterInitDeselect.curCmd = s.curCmd ∧ s.afterInitDeselect.r1 = s.r1 ∧ s.afterInitDeselect.dresp = s.dresp ∧
    s.afterInitDeselect.token = s.token ∧ s.afterInitDeselect.opl = s.opl ∧ s.afterInitDeselect.argl = s.argl ∧
    s.afterInitDeselect.pollCnt = s.pollCnt ∧ s.afterInitDeselect.roundCnt = s.roundCnt ∧
    s.afterInitDeselect.byteCnt = s.byteCnt ∧ s.afterInitDeselect.crc16Acc = s.crc16Acc ∧
    s.afterInitDeselect.txFrame = s.txFrame ∧ s.afterInitDeselect.crcHi = s.crcHi ∧
    s.afterInitDeselect.draws = s.draws ∧ s.afterInitDeselect.bufDraw = s.bufDraw ∧
    s.afterInitDeselect.csLine = s.csLine ∧ s.afterInitDeselect.hostIn = s.hostIn ∧
    s.afterInitDeselect.hostData = s.hostData ∧ s.afterInitDeselect.linkIn = s.linkIn ∧
    s.afterInitDeselect.trace = s.trace := by
  unfold State.afterInitDeselect; split_ifs <;> simp

@[simp] theorem State.succeed_frame (s : State) (op : Op) :
    (s.succeed op).params = s.params ∧ (s.succeed op).arg = s.arg ∧ (s.succeed op).buf = s.buf ∧
    (s.succeed op).resp = s.resp ∧ (s.succeed op).csd = s.csd ∧ (s.succeed op).blockCount = s.blockCount ∧
    (s.succeed op).cs = s.cs ∧ (s.succeed op).curCmd = s.curCmd ∧ (s.succeed op).r1 = s.r1 ∧
    (s.succeed op).dresp = s.dresp ∧ (s.succeed op).token = s.token ∧ (s.succeed op).opl = s.opl ∧
    (s.succeed op).argl = s.argl ∧ (s.succeed op).pollCnt = s.pollCnt ∧ (s.succeed op).roundCnt = s.roundCnt ∧
    (s.succeed op).byteCnt = s.byteCnt ∧ (s.succeed op).crc16Acc = s.crc16Acc ∧
    (s.succeed op).txFrame = s.txFrame ∧ (s.succeed op).crcHi = s.crcHi ∧ (s.succeed op).draws = s.draws ∧
    (s.succeed op).bufDraw = s.bufDraw ∧ (s.succeed op).csLine = s.csLine ∧ (s.succeed op).hostIn = s.hostIn ∧
    (s.succeed op).hostData = s.hostData ∧ (s.succeed op).linkIn = s.linkIn ∧ (s.succeed op).trace = s.trace := by
  cases op <;> simp [State.succeed]

@[simp] theorem State.failF2_frame (s : State) (f : Raised) :
    (s.failF2 f).params = s.params ∧ (s.failF2 f).arg = s.arg ∧ (s.failF2 f).blockCount = s.blockCount ∧
    (s.failF2 f).cs = s.cs ∧ (s.failF2 f).stream = s.stream ∧ (s.failF2 f).curCmd = s.curCmd ∧
    (s.failF2 f).r1 = s.r1 ∧ (s.failF2 f).dresp = s.dresp ∧ (s.failF2 f).token = s.token ∧
    (s.failF2 f).opl = s.opl ∧ (s.failF2 f).argl = s.argl ∧ (s.failF2 f).pollCnt = s.pollCnt ∧
    (s.failF2 f).roundCnt = s.roundCnt ∧ (s.failF2 f).byteCnt = s.byteCnt ∧ (s.failF2 f).crc16Acc = s.crc16Acc ∧
    (s.failF2 f).txFrame = s.txFrame ∧ (s.failF2 f).crcHi = s.crcHi ∧ (s.failF2 f).csLine = s.csLine ∧
    (s.failF2 f).hostIn = s.hostIn ∧ (s.failF2 f).hostData = s.hostData ∧ (s.failF2 f).linkIn = s.linkIn ∧
    (s.failF2 f).trace = s.trace := by
  simp [State.failF2]

/-- A poll of wait-not-busy writes POLL_CNT and the position, and what its continuation writes. -/
theorem State.afterBusyPoll_cases (s : State) (r : Byte) (ready : State → State) (op : Op) (label : Nat) :
    (r = 0xFF#8 ∧ s.afterBusyPoll r ready op label = ready { s with pollCnt := s.pollCnt + 1 }) ∨
    (r ≠ 0xFF#8 ∧ limitReached s.params.notBusyLimit (s.pollCnt + 1) = true ∧
      s.afterBusyPoll r ready op label
        = { s with pollCnt := s.pollCnt + 1, phase := .failDeselect ⟨.timeoutNotBusy, op, label⟩ }) ∨
    (r ≠ 0xFF#8 ∧ limitReached s.params.notBusyLimit (s.pollCnt + 1) = false ∧
      s.afterBusyPoll r ready op label = { s with pollCnt := s.pollCnt + 1 }) := by
  unfold State.afterBusyPoll isIdleByte State.raise
  by_cases h1 : r = 0xFF#8
  · exact .inl ⟨h1, by simp [h1]⟩
  · cases h2 : limitReached s.params.notBusyLimit (s.pollCnt + 1)
    · exact .inr (.inr ⟨h1, rfl, by simp [h1, h2]⟩)
    · exact .inr (.inl ⟨h1, rfl, by simp [h1, h2]⟩)

end Sys2Proof.Machine
end

