-- ==== Sys2Proof/Laws/Step.lean ====
section
/-! SUPPORT. What one step of the engine can be, said once: the lemmas by which every other proof takes a step apart. -/

namespace Sys2Proof.Machine

/-- A frame that decodes is run by sending it, as the command of its row. -/
theorem exec_of_decodeFrame {f : Frame} {i : Instr} (h : decodeFrame f = .ok i) :
    ∃ c, ∀ s, exec i s = .next (s.sendFrame c f) := by
  unfold decodeFrame at h
  split at h
  · rename_i hh
    have e := frameWord_of_fields hh.1 hh.2
    generalize f.extractLsb' 40 6 = x at *
    generalize f.extractLsb' 8 32 = a at *
    generalize f.extractLsb' 1 7 = k at *
    subst e
    have hx (n : Nat) (hn : n < 64) (h : x.toNat = n) : x = BitVec.ofNat 6 n := by
      apply BitVec.eq_of_toNat_eq; simp [h, Nat.mod_eq_of_lt hn]
    unfold decodeCommand decodeConstant at h
    split at h
    case h_5 hn => cases hx 17 (by omega) hn; cases h; exact ⟨.cmd17, fun _ => rfl⟩
    case h_6 hn => cases hx 18 (by omega) hn; cases h; exact ⟨.cmd18, fun _ => rfl⟩
    case h_7 hn => cases hx 24 (by omega) hn; cases h; exact ⟨.cmd24, fun _ => rfl⟩
    case h_8 hn => cases hx 25 (by omega) hn; cases h; exact ⟨.cmd25, fun _ => rfl⟩
    case h_12 => cases h
    all_goals
      rename_i hn
      cases hx _ (by omega) hn
      split at h <;> [skip; cases h]
      split at h <;> [skip; cases h]
      cases h
      subst_vars
    · exact ⟨.cmd0, fun _ => rfl⟩
    · exact ⟨.cmd8, fun _ => rfl⟩
    · exact ⟨.cmd9, fun _ => rfl⟩
    · exact ⟨.cmd12, fun _ => rfl⟩
    · exact ⟨.acmd41, fun _ => rfl⟩
    · exact ⟨.cmd55, fun _ => rfl⟩
    · exact ⟨.cmd58, fun _ => rfl⟩
  · cases h

/-- A byte with bit 7 clear, put together from its fields. -/
theorem r1Byte_split : ∀ r : Byte, r.extractLsb' 7 1 = 0#1 → 0#1 ++ r.extractLsb' 0 7 = r := by decide

/-- A byte with low five bits 00101, put together from its fields. -/
theorem dataResponse_split : ∀ r : Byte, r.extractLsb' 0 5 = 5#5 → r.extractLsb' 5 3 ++ 5#5 = r := by decide

/-- The CRC7 of the seven constant frames (41 R122). -/
theorem constantCrcs :
    frameCrc7 0#6 0#32 = 0x4A#7 ∧ frameCrc7 8#6 0x1AA#32 = 0x43#7 ∧ frameCrc7 9#6 0#32 = 0x57#7 ∧
    frameCrc7 12#6 0#32 = 0x30#7 ∧ frameCrc7 55#6 0#32 = 0x32#7 ∧ frameCrc7 41#6 0x40000000#32 = 0x3B#7 ∧
    frameCrc7 58#6 0#32 = 0x7E#7 := by decide +kernel

/-- The frame of a command decodes to the command's row. -/
theorem decodeFrame_frame (a : Word) (c : Cmd) : decodeFrame (c.frame a) = .ok (c.row a) := by
  obtain ⟨h0, h8, h9, h12, h55, h41, h58⟩ := constantCrcs
  simp only [Cmd.frame, decodeFrame_frameWord]
  cases c <;> simp [decodeCommand, decodeConstant, Cmd.index, Cmd.argument, Cmd.row, h0, h8, h9, h12, h55, h41, h58]

/-- The row of a command sends the command's frame. -/
theorem exec_row (a : Word) (c : Cmd) (s : State) : exec (c.row a) s = .next (s.sendFrame c (c.frame a)) := by
  obtain ⟨h0, h8, h9, h12, h55, h41, h58⟩ := constantCrcs
  cases c
  case cmd17 => rfl
  case cmd18 => rfl
  case cmd24 => rfl
  case cmd25 => rfl
  all_goals
    simp only [Cmd.row, Cmd.frame, Cmd.index, Cmd.argument, h0, h8, h9, h12, h55, h41, h58]
    rfl

/-- Sending a frame with a listed reply: its first byte is exchanged, and byte 1 comes next. -/
theorem State.sendFrame_cons {s : State} {r : Byte} {rest : List LinkReply} (h : s.linkIn = .byte r :: rest) (c : Cmd)
    (f : Frame) :
    s.sendFrame c f = { s with
      phase := .cmdFrame c 1, txFrame := f, linkIn := rest, trace := s.trace ++ [.x (frameByte f 0) r] } := by
  simp [State.sendFrame, State.exchange, State.reply, State.exchanged, State.takeReply, h, State.afterFrameByte,
    State.goto]

/-- What is fetched where a byte is received. -/
theorem fetchReceived_cases (s : State) (k : Byte → Code) (t : Byte) :
    (s.reply t = .blocked ∧ fetchReceived (s.reply t) k = .instr .filler) ∨
    ∃ r, s.reply t = .byte r ∧ fetchReceived (s.reply t) k =
      match decode (k r) with
      | .ok i => .instr i
      | .error _ => .instr .filler := by
  cases h : s.reply t with
  | blocked => exact .inl ⟨rfl, rfl⟩
  | byte r => exact .inr ⟨r, rfl, rfl⟩

/-- An engine step is the sequencer's step at its position, except at a frame's first byte where the frame register does not
hold the command's frame: there it faults, or sends the frame register as the command of the row it decodes to. -/
theorem engineStep_cases (s : State) :
    engineStep s = .next s.sequencerStep ∨
    ∃ c, s.phase = .cmdFrame c 0 ∧ frameAgrees s = false ∧
      (engineStep s = .fault .badFrame ∨ ∃ c', engineStep s = .next (s.sendFrame c' s.txFrame)) := by
  unfold engineStep State.fetch State.sequencerStep State.sends
  cases hp : s.phase
  case cmdFrame c i =>
    by_cases h0 : i = 0
    · subst h0
      by_cases hf : frameAgrees s = true
      · left
        have := frame_of_agrees hf hp
        have e : ({ s with phase := .cmdFrame c 0, txFrame := c.frame s.argl } : State) = s := by
          rw [← this, ← hp]
        simp only [fetchFrame, decode, this, decodeFrame_frame, if_true, exec_row, State.sendFrame, e]
        have : State.received = fun r s => (match s.phase with
            | .cmdFrame c i => s.afterFrameByte c i
            | _ => State.received r s) := by
          funext r s; unfold State.received; split <;> simp_all
        rw [this]
        unfold State.exchange
        cases s.reply _ <;> simp [hp]
      · right
        refine ⟨c, rfl, by simpa using hf, ?_⟩
        simp only [if_true, fetchFrame, decode]
        cases hd : decodeFrame s.txFrame with
        | error e => simp
        | ok i =>
          obtain ⟨c', h⟩ := exec_of_decodeFrame hd
          exact .inr ⟨c', h s⟩
    · left; simp [h0]
  case cmdPollR1 c =>
    left
    rcases fetchReceived_cases s .r1Poll 0xFF#8 with ⟨h1, h2⟩ | ⟨r, h1, h2⟩
    · simp [h2, exec, execFiller]
    · rw [h2]
      simp only [decode]
      by_cases h7 : r.extractLsb' 7 1 = 0#1
      · simp [h7, exec, execR1, r1Byte_split r h7, State.exchange, h1]
      · simp [h7, exec, execFiller]
  case tokenWait c =>
    left
    rcases fetchReceived_cases s .tokenWait 0xFF#8 with ⟨h1, h2⟩ | ⟨r, h1, h2⟩
    · simp [h2, exec, execFiller]
    · rw [h2]
      simp only [decode]
      by_cases hr : r = 0xFE#8
      · subst hr; simp [exec, execTokenStartBlockRead, State.exchange, h1]
      · simp [hr, exec, execFiller]
  case dataResponse c =>
    left
    rcases fetchReceived_cases s .dataResponse 0xFF#8 with ⟨h1, h2⟩ | ⟨r, h1, h2⟩
    · simp [h2, exec, execFiller]
    · rw [h2]
      simp only [decode]
      by_cases h5 : r.extractLsb' 0 5 = 0b00101#5
      · simp [h5, exec, execDataResponseAccepted, dataResponse_split r h5, State.exchange, h1]
      · simp [h5, exec, execFiller]
  case blockOutToken b =>
    left
    cases b <;> simp [fetchSent, decode, decodeSent, BlockOut.token, exec, execTokenStartBlockWriteSingle,
      execTokenStartBlockWriteMulti, State.exchange] <;>
      split <;> simp [State.received, hp]
  case stopToken =>
    left
    simp [fetchSent, decode, decodeSent, exec, execTokenStopTran, State.exchange]
    split <;> simp [State.received, hp]
  case blockOutCrcHi b =>
    left
    by_cases he : s.params.dataCrcEnable = true
    · simp [he]
    · simp [he, fetchSent, decode, decodeSent, exec, execFiller, State.crcOut]
  case blockOutCrcLo b =>
    left
    by_cases he : s.params.dataCrcEnable = true
    · simp [he]
    · simp [he, fetchSent, decode, decodeSent, exec, execFiller, State.crcOut]
  all_goals left; simp [fetchSent, decode, decodeSent, exec, execFiller]

/-- The sequencer's step: an exchange that does not return, an exchange and what the position does with its byte, or a
call. -/
theorem State.sequencerStep_cases (s : State) :
    (∃ t, s.sends = some t ∧ s.reply t = .blocked ∧ s.sequencerStep = s.takeReply) ∨
    (∃ t b, s.sends = some t ∧ s.reply t = .byte b ∧ s.sequencerStep = State.received b (s.exchanged t b)) ∨
    (s.sends = none ∧ s.sequencerStep = s.callStep) := by
  unfold State.sequencerStep
  cases hs : s.sends with
  | none => exact .inr (.inr ⟨rfl, rfl⟩)
  | some t =>
    rcases State.exchange_cases s t State.received with ⟨h1, h2⟩ | ⟨b, h1, h2⟩
    · exact .inl ⟨t, rfl, h1, h2⟩
    · exact .inr (.inl ⟨t, b, rfl, h1, h2⟩)

end Sys2Proof.Machine
end

