-- ==== Sys2Proof/Machine/FixtureCard.lean ====
section
/-! DEFINITION. The simulated card of 95 section 5, as an environment beside the machine (20 R46): it is no part of the
engine, and `step` does not use it. A run with it feeds each exchange's answer into `linkIn` (log 25). -/

namespace Sys2Proof.Machine

/-- The fixture's parameters and state (95 section 5). -/
structure Card where
  csd : List Byte
  ocr : List Byte
  tok : Nat
  busyBytes : Nat
  rounds : Nat
  q : List Byte
  frame : List Byte
  ready : Bool
  left : Nat
  app : Bool
  rd : Option Nat
  wr : Option Nat
  col : Option (List Byte)
  ctok : Byte
  /-- blocks written or given; every other block is 512 bytes of 0x00 -/
  store : List (Nat × List Byte)
  deriving DecidableEq, Repr

namespace Card

/-- A card powered and never initialised. -/
def fresh (csd ocr : List Byte) (tok busyBytes rounds : Nat) (store : List (Nat × List Byte)) : Card :=
  { csd := csd, ocr := ocr, tok := tok, busyBytes := busyBytes, rounds := rounds, q := [], frame := [], ready := false
    left := rounds, app := false, rd := none, wr := none, col := none, ctok := 0#8, store := store }

/-- `MemRead(b, 512)`. -/
def memRead (c : Card) (b : Nat) : List Byte :=
  match c.store.find? (fun e => e.1 == b) with
  | some e => e.2
  | none => List.replicate 512 0x00#8

/-- `MemWrite(b, 512, v)`. -/
def memWrite (c : Card) (b : Nat) (v : List Byte) : Card :=
  { c with store := (b, v) :: c.store.filter (fun e => e.1 != b) }

/-- The two CRC bytes of `data`, high byte first. -/
def crcBytes (data : List Byte) : List Byte := [(crc16 data).extractLsb' 8 8, (crc16 data).extractLsb' 0 8]

/-- `block_out(data)`. -/
def blockOut (c : Card) (data : List Byte) : List Byte :=
  List.replicate c.tok 0xFF#8 ++ [0xFE#8] ++ data ++ crcBytes data

/-- `execute(index, arg)` once `app` has been cleared; `wasApp` is what it was. -/
def executeCommand (c : Card) (wasApp : Bool) (index : Nat) (arg : Word) : Card :=
  let s : Byte := if c.ready then 0x00#8 else 0x01#8
  if index = 0 then { c with ready := false, left := c.rounds, rd := none, wr := none, q := [0xFF#8, 0x01#8] }
  else if index = 8 then
    { c with q := [0xFF#8, s, 0x00#8, 0x00#8, (arg.extractLsb' 8 8) &&& 0x0F#8, arg.extractLsb' 0 8] }
  else if index = 55 then { c with app := true, q := [0xFF#8, s] }
  else if index = 41 ∧ wasApp = true then
    let c := { c with left := c.left - 1, ready := c.ready || decide (c.left ≤ 1) }
    { c with q := [0xFF#8, if c.ready then 0x00#8 else 0x01#8] }
  else if index = 58 then
    { c with q := [0xFF#8, s] ++ if c.ready then c.ocr else [0x00#8, 0xFF#8, 0x80#8, 0x00#8] }
  else if c.ready = false then { c with q := [0xFF#8, 0x05#8] }
  else if index = 9 then
    { c with q := [0xFF#8, 0x00#8] ++ List.replicate c.tok 0xFF#8 ++ [0xFE#8] ++ c.csd ++ crcBytes c.csd }
  else if index = 17 then { c with q := [0xFF#8, 0x00#8] ++ c.blockOut (c.memRead arg.toNat) }
  else if index = 18 then
    { c with q := [0xFF#8, 0x00#8] ++ c.blockOut (c.memRead arg.toNat), rd := some (arg.toNat + 1) }
  else if index = 12 then { c with rd := none, q := [0xFF#8, 0x00#8] }
  else if index = 24 ∨ index = 25 then { c with q := [0xFF#8, 0x00#8], wr := some arg.toNat }
  else { c with q := [0xFF#8, 0x04#8] }

/-- `execute` on the six bytes of a frame; byte 5 is not checked. -/
def execute (c : Card) (f : List Byte) : Card :=
  let wasApp := c.app
  let arg : Word := f.getD 1 0#8 ++ f.getD 2 0#8 ++ f.getD 3 0#8 ++ f.getD 4 0#8
  { c with app := false }.executeCommand wasApp (f.getD 0 0#8 &&& 0x3F#8).toNat arg

/-- A byte of a data packet; the 514th stores the block. -/
def collect (c : Card) (col : List Byte) (t : Byte) : Card :=
  let col := col ++ [t]
  if col.length = 514 then
    let b := c.wr.getD 0
    let c := c.memWrite b (col.take 512)
    { c with col := none, q := [0xE5#8] ++ List.replicate c.busyBytes 0x00#8
             wr := if c.ctok = 0xFC#8 then some (b + 1) else none }
  else { c with col := some col }

/-- What the byte `t` does to a selected card. -/
def take (c : Card) (t : Byte) : Card :=
  match c.col with
  | some col => c.collect col t
  | none =>
    if c.frame ≠ [] ∨ t &&& 0xC0#8 = 0x40#8 then
      let f := c.frame ++ [t]
      if f.length = 6 then { c.execute f with frame := [] } else { c with frame := f }
    else if c.wr.isSome ∧ (t = 0xFE#8 ∨ t = 0xFC#8) then { c with col := some [], ctok := t }
    else if c.wr.isSome ∧ t = 0xFD#8 then
      { c with wr := none, q := [0xFF#8] ++ List.replicate c.busyBytes 0x00#8 }
    else c

/-- A streaming read refills the queue with the next block as soon as it runs empty. -/
def refill (c : Card) : Card :=
  match c.rd with
  | some b => if c.q = [] ∧ c.frame = [] then { c with q := c.blockOut (c.memRead b), rd := some (b + 1) } else c
  | none => c

/-- `exchange(t)` of the fixture: the byte it returns and the card after. -/
def exchange (c : Card) (selected : Bool) (t : Byte) : Byte × Card :=
  if selected then
    match c.q with
    | [] => (0xFF#8, (c.take t).refill)
    | r :: q => (r, ({ c with q := q }.take t).refill)
  else (0xFF#8, c)

end Card

/-- One step of the engine with the fixture card on its link. -/
def cardStep (c : Card) (s : State) : Host.Outcome (Card × State) Fault Refusal :=
  let (c', s') := match s.engineMoves, s.sends with
    | true, some t => let (r, c') := c.exchange s.cs t; (c', { s with linkIn := [.byte r] })
    | _, _ => (c, s)
  match step s' with
  | .next t => .next (c', t)
  | .fault f => .fault f
  | .refused r => .refused r

end Sys2Proof.Machine
end

