-- ==== Sys2Proof/Tests/Slice0.lean ====
section
/-! SUPPORT. Tests with expected results from the spec (30, 41, 42 to 46, 60, 95), each about one step on a small state; the
ill-formed terms; and, for every obligation with hypotheses, a theorem showing a state and operands that meet them,
clause by clause. -/

namespace Sys2Proof.Tests

open Sys2Proof Sys2Proof.Machine

/-! ## Helpers -/

/-- The next state of an outcome. -/
def nextOf : Host.Outcome State Fault Refusal → Option State
  | .next s => some s
  | .fault _ | .refused _ => none

/-- An idle engine with a block index in ARG. -/
def idle (arg : Word) : State := { State.reset with arg := arg }

/-- A busy engine at a position, with replies listed. -/
def stand (p : Phase) (replies : List Byte) : State :=
  { State.reset with phase := p, busy := true, argl := 10#32, linkIn := bytes replies }

/-- The events of the link made by running one row. -/
def traceOf (i : Instr) (s : State) : Option (List LinkEvent) := (nextOf (exec i s)).map (·.trace)

/-- Where a row leaves the engine. -/
def phaseOf (i : Instr) (s : State) : Option Phase := (nextOf (exec i s)).map (·.phase)

/-- What issuing leaves, by code and first position. -/
def issues (i : Instr) (code : BitVec 4) (p : Phase) : Prop :=
  (nextOf (exec i (idle 10#32))).map (fun t => (t.opl, t.argl, t.busy, t.done, t.phase))
    = some (code, 10#32, true, false, p)

/-! ## Ill-formed instructions -/

theorem test_cmd17_wrong_crc_ill_formed : (Instr.cmd17 10#32 0x00#7).wellFormed = false := by decide +kernel

theorem test_cmd17_block_10_well_formed : (Instr.cmd17 10#32 0x70#7).wellFormed = true := by decide +kernel

theorem test_cmd18_wrong_crc_ill_formed : (Instr.cmd18 10#32 0x00#7).wellFormed = false := by decide +kernel

theorem test_cmd18_block_10_well_formed : (Instr.cmd18 10#32 0x2a#7).wellFormed = true := by decide +kernel

theorem test_cmd24_wrong_crc_ill_formed : (Instr.cmd24 10#32 0x00#7).wellFormed = false := by decide +kernel

theorem test_cmd24_block_7_well_formed : (Instr.cmd24 7#32 0x08#7).wellFormed = true := by decide +kernel

theorem test_cmd25_wrong_crc_ill_formed : (Instr.cmd25 10#32 0x00#7).wellFormed = false := by decide +kernel

theorem test_cmd25_block_10_well_formed : (Instr.cmd25 10#32 0x5b#7).wellFormed = true := by decide +kernel

/-! ## Decoding, from words written out bit by bit -/

theorem test_decode_host_code : decode (.ctrl 0b00000000000000000000000000000111#32) = .ok .readEnd := by decide

theorem test_decode_host_code_high_bits : decode (.ctrl 0xABCDEF05#32) = .ok .readBegin := by decide

theorem test_decode_reserved : decode (.ctrl 0b1110#32) = .ok .reservedE := by decide

theorem test_decode_constant_frame :
    decode (.frame 0b010010010000000000000000000000000000000010101111#48) = .ok .cmd9 := by decide

theorem test_decode_acmd41 :
    decode (.frame 0b011010010100000000000000000000000000000001110111#48) = .ok .acmd41 := by decide

theorem test_decode_block_frame :
    decode (.frame 0b010100010001001000110100010101100111100001011101#48) = .ok (.cmd17 0x12345678#32 0x2E#7) := by
  decide

theorem test_decode_frame_wrong_crc : decode (.frame 0x400000000097#48) = .error .wrongCrc := by decide

theorem test_decode_frame_wrong_argument : decode (.frame 0x4000000001A5#48) = .error .wrongArgument := by decide

theorem test_decode_frame_no_stop_bit : decode (.frame 0x400000000094#48) = .error .notAFrame := by decide

theorem test_decode_frame_other_index : decode (.frame 0x4D0000000001#48) = .error (.unknownIndex 13#6) := by decide

theorem test_decode_tokens :
    decode (.tokenWait 0b11111110#8) = .ok .tokenStartBlockRead ∧
    decode (.sent 0b11111110#8) = .ok .tokenStartBlockWriteSingle ∧
    decode (.sent 0b11111100#8) = .ok .tokenStartBlockWriteMulti ∧
    decode (.sent 0b11111101#8) = .ok .tokenStopTran ∧
    decode (.sent 0b11111111#8) = .ok .filler := by decide

theorem test_decode_token_wait_error_token : decode (.tokenWait 0x08#8) = .error .notStartToken := by decide

theorem test_decode_data_response :
    decode (.dataResponse 0b00100101#8) = .ok (.dataResponseAccepted 1#3) ∧
    decode (.dataResponse 0b00001011#8) = .error .notAccepted := by decide

theorem test_decode_r1 :
    decode (.r1Poll 0b00000001#8) = .ok (.r1 1#7) ∧ decode (.r1Poll 0b10000000#8) = .error .notYetR1 := by decide

theorem test_table_word_shared_byte : decodeTableWord 8 0x05 = some .readBegin := by decide

theorem test_table_word_rejected : decodeTableWord 8 0x98 = none := by decide

/-! ## One step after reset on a placed word -/

theorem test_fetch_word_runs_host_code :
    (nextOf (step (State.reset.withFetchWord 8 0x06))).map (·.phase) = some (.select .readData) := by decide

theorem test_fetch_word_runs_frame :
    (nextOf (step ({ State.reset with linkIn := [.byte 0xFF#8] }.withFetchWord 48 0x590000000AB7))).map
      (fun t => (t.phase, t.curCmd)) = some (.cmdFrame .cmd25 1, 25#6) := by decide

theorem test_fetch_word_runs_read_token :
    (nextOf (step (State.reset.withFetchWord 8 0xFE))).map (fun t => (t.phase, t.token))
      = some (.blockIn .single, 0xFE#8) := by decide

/-! ## Host codes (30 R80, R81; 10 R28) -/

theorem test_init_issues : issues .init 0x1#4 .initDeselect := by unfold issues; decide

theorem test_getBlocksNumber_issues : issues .getBlocksNumber 0x2#4 (.select .getBlocksNumber) := by unfold issues; decide

theorem test_readSingleBlock_issues : issues .readSingleBlock 0x3#4 (.select .readSingleBlock) := by unfold issues; decide

theorem test_writeSingleBlock_issues : issues .writeSingleBlock 0x4#4 (.select .writeSingleBlock) := by unfold issues; decide

theorem test_readBegin_issues : issues .readBegin 0x5#4 (.select .readBegin) := by unfold issues; decide

theorem test_readData_issues : issues .readData 0x6#4 (.select .readData) := by unfold issues; decide

theorem test_readEnd_issues : issues .readEnd 0x7#4 (.select .readEnd) := by unfold issues; decide

theorem test_writeBegin_issues : issues .writeBegin 0x8#4 (.select .writeBegin) := by unfold issues; decide

theorem test_writeData_issues : issues .writeData 0x9#4 (.select .writeData) := by unfold issues; decide

theorem test_writeEnd_issues : issues .writeEnd 0xA#4 (.select .writeEnd) := by unfold issues; decide

theorem test_unselect_issues : issues .unselect 0xB#4 (.deselect .unselect) := by unfold issues; decide

theorem test_reserved0_issues : issues .reserved0 0x0#4 .illegal := by unfold issues; decide

theorem test_reservedC_issues : issues .reservedC 0xC#4 .illegal := by unfold issues; decide

theorem test_reservedD_issues : issues .reservedD 0xD#4 .illegal := by unfold issues; decide

theorem test_reservedE_issues : issues .reservedE 0xE#4 .illegal := by unfold issues; decide

theorem test_reservedF_issues : issues .reservedF 0xF#4 .illegal := by unfold issues; decide

theorem test_issue_ignored_while_busy :
    (nextOf (exec .unselect (stand .cmdStuff []))).map (fun t => (t.opl, t.phase)) = some (0#4, .cmdStuff) := by decide

/-! ## Frames: the first byte (30 R62), and the CRC bytes of block frames (41 R122) -/

theorem test_cmd0_first_byte :
    traceOf .cmd0 (stand (.cmdFrame .cmd0 0) [0x3C#8]) = some [.x 0x40#8 0x3C#8] := by decide +kernel

theorem test_cmd8_first_byte :
    traceOf .cmd8 (stand (.cmdFrame .cmd8 0) [0x3C#8]) = some [.x 0x48#8 0x3C#8] := by decide +kernel

theorem test_cmd9_first_byte :
    traceOf .cmd9 (stand (.cmdFrame .cmd9 0) [0x3C#8]) = some [.x 0x49#8 0x3C#8] := by decide +kernel

theorem test_cmd12_first_byte :
    traceOf .cmd12 (stand (.cmdFrame .cmd12 0) [0x3C#8]) = some [.x 0x4C#8 0x3C#8] := by decide +kernel

theorem test_cmd55_first_byte :
    traceOf .cmd55 (stand (.cmdFrame .cmd55 0) [0x3C#8]) = some [.x 0x77#8 0x3C#8] := by decide +kernel

theorem test_acmd41_first_byte :
    traceOf .acmd41 (stand (.cmdFrame .acmd41 0) [0x3C#8]) = some [.x 0x69#8 0x3C#8] := by decide +kernel

theorem test_cmd58_first_byte :
    traceOf .cmd58 (stand (.cmdFrame .cmd58 0) [0x3C#8]) = some [.x 0x7A#8 0x3C#8] := by decide +kernel

theorem test_cmd17_first_byte :
    traceOf (.cmd17 10#32 0#7) (stand (.cmdFrame .cmd17 0) [0x3C#8]) = some [.x 0x51#8 0x3C#8] := by decide +kernel

theorem test_cmd17_crc_byte : frameByte (Cmd.cmd17.frame 10#32) 5 = 0xE1#8 := by decide +kernel

theorem test_cmd18_first_byte :
    traceOf (.cmd18 10#32 0#7) (stand (.cmdFrame .cmd18 0) [0x3C#8]) = some [.x 0x52#8 0x3C#8] := by decide +kernel

theorem test_cmd18_crc_byte : frameByte (Cmd.cmd18.frame 10#32) 5 = 0x55#8 := by decide +kernel

theorem test_cmd24_first_byte :
    traceOf (.cmd24 10#32 0#7) (stand (.cmdFrame .cmd24 0) [0x3C#8]) = some [.x 0x58#8 0x3C#8] := by decide +kernel

theorem test_cmd24_crc_byte : frameByte (Cmd.cmd24.frame 7#32) 5 = 0x11#8 := by decide +kernel

theorem test_cmd25_first_byte :
    traceOf (.cmd25 10#32 0#7) (stand (.cmdFrame .cmd25 0) [0x3C#8]) = some [.x 0x59#8 0x3C#8] := by decide +kernel

theorem test_cmd25_crc_byte : frameByte (Cmd.cmd25.frame 10#32) 5 = 0xB7#8 := by decide +kernel

/-! ## Tokens and received bytes -/

theorem test_tokenStartBlockWriteSingle :
    traceOf .tokenStartBlockWriteSingle (stand (.blockOutToken .single) [0xFF#8]) = some [.x 0xFE#8 0xFF#8] := by decide

theorem test_tokenStartBlockWriteMulti :
    traceOf .tokenStartBlockWriteMulti (stand (.blockOutToken .stream) [0xFF#8]) = some [.x 0xFC#8 0xFF#8] := by decide

theorem test_tokenStopTran :
    phaseOf .tokenStopTran (stand .stopToken [0xFF#8]) = some .stopDiscard := by decide

theorem test_tokenStartBlockRead :
    (nextOf (exec .tokenStartBlockRead (stand (.tokenWait .csd) [0xFE#8]))).map (fun t => (t.token, t.phase))
      = some (0xFE#8, .blockIn .csd) := by decide

theorem test_dataResponseAccepted :
    (nextOf (exec (.dataResponseAccepted 7#3) (stand (.dataResponse .stream) [0xE5#8]))).map
      (fun t => (t.dresp, t.phase)) = some (0xE5#8, .programWait .afterStream) := by decide

theorem test_data_response_rejected :
    (nextOf (step (stand (.dataResponse .single) [0x0B#8]))).map (fun t => (t.dresp, t.phase))
      = some (0x0B#8, .failDeselect ⟨.wrResp, .writeSingleBlock, 4⟩) := by decide

theorem test_r1_cmd8_illegal_command :
    (nextOf (exec (.r1 5#7) (stand (.cmdPollR1 .cmd8) [0x05#8]))).map (fun t => (t.r1, t.phase))
      = some (0x05#8, .failDeselect ⟨.initCmd8R1, .init, 5⟩) := by decide

theorem test_r1_acmd41_idle_repeats :
    (nextOf (exec (.r1 1#7) (stand (.cmdPollR1 .acmd41) [0x01#8]))).map (fun t => (t.curCmd, t.roundCnt, t.phase))
      = some (55#6, 1, .cmdWait .cmd55) := by decide

theorem test_filler_busy_then_ready :
    phaseOf .filler (stand (.programWait .writeEnd) [0x00#8]) = some (.programWait .writeEnd) ∧
    phaseOf .filler (stand (.programWait .writeEnd) [0xFF#8]) = some (.deselect .writeEnd) := by decide

theorem test_filler_stores_data_byte :
    (nextOf (exec .filler { stand (.blockIn .single) [0x5A#8] with byteCnt := 511 })).map
      (fun t => (t.bufByte 511, t.phase)) = some (0x5A#8, .blockInCrcHi .single) := by decide

/-! ## Registers, checks and arithmetic (10 R27, R29; 43 R152; 60 R221) -/

theorem test_status_word :
    statusWord { stand .stopToken [] with opl := 0xA#4, curCmd := 25#6, stream := .write, cs := true, initialized := true }
      = 0x000A192D#32 := by decide

theorem test_result_register : { idle 0#32 with result := 0xC0#8 }.regValue .result = 0xFFFFFFC0#32 := by decide

/-- The CSD of 43 R154. -/
def csd7GiB : Vector Byte 16 :=
  #v[0x40, 0x0E, 0x00, 0x32, 0x5B, 0x59, 0x00, 0x00, 0x3B, 0x37, 0x7F, 0x80, 0x0A, 0x40, 0x00, 0x01]

theorem test_block_count : blockCountOf csd7GiB = 15523840#33 := by decide

theorem test_block_count_largest :
    blockCountOf #v[0x40, 0, 0, 0, 0, 0, 0, 0xFF, 0xFF, 0xFF, 0, 0, 0, 0, 0, 0] = 0x100000000#33 := by decide

theorem test_csd_crc16 : crc16 csd7GiB.toList = 0x44C6#16 := by decide +kernel

theorem test_payload_checks :
    r7Accepted #v[0x00, 0x00, 0x0F, 0xAA] = true ∧ r7Accepted #v[0x00, 0x00, 0x00, 0xAA] = false ∧
    r7Accepted #v[0x00, 0x00, 0x01, 0x55] = false ∧ ocrAccepted #v[0xFF, 0, 0, 0] = true ∧
    ocrAccepted #v[0x80, 0, 0, 0] = false := by decide

theorem test_reset_event_drops_operation :
    (nextOf (step { stand (.blockIn .single) [] with hostIn := [.reset], cs := true })).map
      (fun t => (t.busy, t.phase, t.cs, t.trace)) = some (false, .idle, false, []) := by decide

theorem test_failed_read_leaves_no_value :
    (nextOf (step { stand (.failComplete ⟨.crcRd, .readSingleBlock, 3⟩) [] with buf := [(0, 1#8)] })).map
      (fun t => (t.buf, t.result)) = some ([], 0xE7#8) := by decide

theorem test_disk_status_needs_no_operation :
    (Disk.begin 33 .diskStatus).move 0#32 = ({ Disk.begin 33 .diskStatus with pos := .statusRead }, [.read 2]) := by decide

/-- A 32-bit sector count loses 2^32 (48 R205, 93 U16). -/
theorem test_disk_sector_count_width :
    { Disk.begin 33 (.diskIoctl .sectorCount) with countLo := 0#32 }.sectorCount 1#32 = 4294967296 ∧
    { Disk.begin 32 (.diskIoctl .sectorCount) with countLo := 0#32 }.sectorCount 1#32 = 0 := by decide

/-- CRC16_ACC is written by block transfers when DATA_CRC_ENABLE, and else by nothing (10 R10). -/
theorem test_crc_accumulator_written_only_when_enabled :
    let s (e : Bool) (p : Phase) (r : Byte) : State :=
      { stand p [r] with params := { Params.reference with dataCrcEnable := e }, crc16Acc := 0x1234#16 }
    let acc (s : State) := (nextOf (step s)).map (·.crc16Acc)
    acc (s true (.tokenWait .single) 0xFE#8) = some 0#16 ∧ acc (s false (.tokenWait .single) 0xFE#8) = some 0x1234#16 ∧
    acc (s true (.blockOutToken .stream) 0xFF#8) = some 0#16 ∧ acc (s false (.blockIn .single) 0x5A#8) = some 0x1234#16 ∧
    acc (s true (.cmdPollR1 .cmd8) 0x01#8) = some 0x1234#16 := by decide

/-! ## Witnesses: the hypotheses of each obligation are met -/

theorem witness_EncodeOfDecode : decode (.ctrl 0x10B#32) = .ok .unselect ∧ decode (.sent 0xFF#8) = .ok .filler := by decide

theorem witness_FrameLayout : Cmd.cmd12.index = 12#6 ∧ Cmd.cmd12.argument 5#32 = 0#32 := by decide

theorem witness_IssueWhenIdle : (idle 0xFFFFFFFF#32).busy = false := by decide

theorem witness_BusyWritesIgnored :
    (stand .stopToken []).busy = true ∧ { stand .stopToken [] with hostIn := [.write 0 1#32] }.hostIn = [.write 0 1#32] :=
  ⟨rfl, rfl⟩

theorem witness_ReservedCodeCompletes :
    (idle 0#32).busy = false ∧ (idle 0#32).hostIn = [] ∧
    (Instr.reservedF, 0xF#4) ∈ [(.reserved0, 0x0#4), (.reservedC, 0xC#4), (.reservedD, 0xD#4), (.reservedE, 0xE#4),
      (Instr.reservedF, 0xF#4)] := by decide

theorem witness_StepRunsHostCode :
    { idle 0#32 with hostIn := [.write 0 0xB#32] }.hostIn = [.write 0 0xB#32] ∧ decode (.ctrl 0xB#32) = .ok .unselect := by
  decide

theorem witness_StepRunsLinkRow :
    (stand .stopToken []).engineMoves = true ∧ (stand .stopToken []).phase = .stopToken ∧
    decode (.sent 0xFD#8) = .ok .tokenStopTran ∧
    decode (.frame ({ stand (.cmdFrame .cmd0 0) [] with txFrame := 0x400000000095#48 } : State).txFrame) = .ok .cmd0 ∧
    decode (.sent BlockOut.stream.token) = .ok .tokenStartBlockWriteMulti ∧
    (stand (.cmdPollR1 .cmd0) [0x7F#8]).reply 0xFF#8 = .byte 0x7F#8 ∧ decode (.r1Poll 0x7F#8) = .ok (.r1 0x7F#7) ∧
    (stand (.tokenWait .csd) [0xFE#8]).reply 0xFF#8 = .byte 0xFE#8 ∧
    decode (.tokenWait 0xFE#8) = .ok .tokenStartBlockRead ∧
    (stand (.dataResponse .single) [0x05#8]).reply 0xFF#8 = .byte 0x05#8 ∧
    decode (.dataResponse 0x05#8) = .ok (.dataResponseAccepted 0#3) ∧
    (stand .cmdStuff []).fetch = .instr .filler ∧ (stand (.select .init) []).fetch = .bare := by decide

theorem witness_RowsAgreeWithSequencer :
    (stand .stopToken []).engineMoves = true ∧ frameAgrees (stand .stopToken []) = true ∧
    frameAgrees { stand (.cmdFrame .cmd17 0) [] with txFrame := 0x510000000AE1#48 } = true := by decide +kernel

theorem witness_FetchWordRuns :
    decodeTableWord 48 0x590000000AB7 = some (.cmd25 10#32 0x5B#7) ∧ decodeTableWord 8 0xFF = some .filler := by decide

theorem witness_FrameRowsStart : (stand (.cmdFrame .cmd0 0) [0xFF#8]).linkIn = .byte 0xFF#8 :: [] := by decide

theorem witness_SendFrame :
    (stand (.cmdFrame .cmd12 0) [1#8, 2#8, 3#8, 4#8, 5#8, 6#8]).hostIn = [] ∧
    (stand (.cmdFrame .cmd12 0) [1#8, 2#8, 3#8, 4#8, 5#8, 6#8]).linkIn
      = bytes [1#8, 2#8, 3#8, 4#8, 5#8, 6#8] ++ [] := by decide

theorem witness_SentTokens : (stand .stopToken [0x00#8]).linkIn = .byte 0x00#8 :: [] := by decide

theorem witness_StuffByte :
    (stand .stopToken [0x00#8]).linkIn = .byte 0x00#8 :: [] ∧ (stand .stopToken [0x00#8]).hostIn = [] ∧
    (stand (.cmdFrame .cmd12 5) [0x00#8]).phase = .cmdFrame .cmd12 5 ∧
    (stand (.cmdFrame .cmd58 5) [0x00#8]).phase = .cmdFrame .cmd58 5 ∧
    (stand .cmdStuff [0x00#8]).phase = .cmdStuff ∧ (stand .stopDiscard [0x00#8]).phase = .stopDiscard := by decide

theorem witness_InitDummyBytes :
    let s : State := { stand .initDeselect [1#8] with params := { Params.reference with initDummyBytes := 1 } }
    s.hostIn = [] ∧ s.phase = .initDeselect ∧ [1#8].length = s.params.initDummyBytes ∧ s.linkIn = bytes [1#8] ++ [] := by
  decide

/-- A state with every limit at `l`. -/
def limited (l : Nat) (s : State) : State :=
  { s with params := { s.params with notBusyLimit := l, r1Limit := l, tokenLimit := l, acmd41Limit := l } }

theorem witness_WaitNotBusy :
    let s (l : Nat) (p : Phase) (rs : List Byte) : State := limited l (stand p rs)
    (∀ b ∈ [0x00#8, 0x7F#8], b ≠ 0xFF#8) ∧
    (∀ p ∈ [Phase.cmdWait .cmd0, .programWait .writeEnd],
      ((s 0 p [0x00#8, 0x7F#8, 0xFF#8]).hostIn = [] ∧ (s 0 p [0x00#8, 0x7F#8, 0xFF#8]).pollCnt = 0 ∧
        (s 0 p [0x00#8, 0x7F#8, 0xFF#8]).linkIn = bytes ([0x00#8, 0x7F#8] ++ [0xFF#8]) ++ []) ∧
      (2 < (s 3 p [0x00#8, 0x7F#8, 0xFF#8]).params.notBusyLimit ∧
        (s 3 p [0x00#8, 0x7F#8, 0xFF#8]).linkIn = bytes ([0x00#8, 0x7F#8] ++ [0xFF#8]) ++ []) ∧
      (2 = (s 2 p [0x00#8, 0x7F#8]).params.notBusyLimit ∧
        (s 2 p [0x00#8, 0x7F#8]).linkIn = bytes [0x00#8, 0x7F#8] ++ [])) := by decide

theorem witness_PollR1 :
    let s (l : Nat) (rs : List Byte) : State := limited l (stand (.cmdPollR1 .cmd0) rs)
    (stand (.cmdFrame .cmd0 5) [1#8]).phase = .cmdFrame .cmd0 5 ∧ Cmd.cmd0 ≠ .cmd12 ∧
    (stand (.cmdFrame .cmd0 5) [1#8]).linkIn = .byte 1#8 :: [] ∧ (stand .cmdStuff [1#8]).linkIn = .byte 1#8 :: [] ∧
    (∀ b ∈ [0x80#8], b.getLsbD 7 = true) ∧ (0x7F#8).getLsbD 7 = false ∧
    (s 0 [0x80#8, 0x7F#8]).hostIn = [] ∧ (s 0 [0x80#8, 0x7F#8]).pollCnt = 0 ∧
    (s 0 [0x80#8, 0x7F#8]).linkIn = bytes ([0x80#8] ++ [0x7F#8]) ++ [] ∧
    1 < (s 2 [0x80#8, 0x7F#8]).params.r1Limit ∧ 1 = (s 1 [0x80#8]).params.r1Limit ∧
    (s 1 [0x80#8]).linkIn = bytes [0x80#8] ++ [] := by decide

theorem witness_WaitToken :
    let s (l : Nat) (rs : List Byte) : State := limited l (stand (.tokenWait .single) rs)
    (s 0 [0xFF#8, 0xFE#8]).hostIn = [] ∧ (s 0 [0xFF#8, 0xFE#8]).pollCnt = 0 ∧
    (s 0 [0xFF#8, 0xFE#8]).linkIn = bytes (List.replicate 1 0xFF#8 ++ [0xFE#8]) ++ [] ∧ (0xFE#8 : Byte) ≠ 0xFF#8 ∧
    1 < (s 2 [0xFF#8, 0x08#8]).params.tokenLimit ∧
    (s 2 [0xFF#8, 0x08#8]).linkIn = bytes (List.replicate 1 0xFF#8 ++ [0x08#8]) ++ [] ∧ (0x08#8 : Byte) ≠ 0xFE#8 ∧
    1 = (s 1 [0xFF#8]).params.tokenLimit ∧ (s 1 [0xFF#8]).linkIn = bytes (List.replicate 1 0xFF#8) ++ [] := by decide

theorem witness_ReadTokenRow :
    (stand (.tokenWait .stream) [0xFE#8]).phase = .tokenWait .stream ∧
    (stand (.tokenWait .stream) [0xFE#8]).linkIn = .byte 0xFE#8 :: [] := by decide

theorem witness_R1Row :
    (∀ c ∈ [Cmd.cmd0, .cmd8, .cmd55], c.requiredR1 = 0#1 ++ 1#7 ∧ (0#1 ++ 0#7 : Byte) ≠ c.requiredR1 ∧ c ≠ .acmd41 ∧
      (stand (.cmdPollR1 c) [0x01#8]).phase = .cmdPollR1 c ∧
      (stand (.cmdPollR1 c) [0x01#8]).linkIn = .byte (0#1 ++ 1#7) :: []) ∧
    (∀ c ∈ [Cmd.cmd9, .cmd12, .cmd17, .cmd18, .cmd24, .cmd25, .acmd41, .cmd58], c.requiredR1 = 0#1 ++ 0#7 ∧
      (stand (.cmdPollR1 c) [0x00#8]).phase = .cmdPollR1 c ∧
      (stand (.cmdPollR1 c) [0x00#8]).linkIn = .byte (0#1 ++ 0#7) :: []) ∧
    (0#1 ++ 2#7 : Byte) ≠ 0x00#8 ∧ (0#1 ++ 2#7 : Byte) ≠ 0x01#8 ∧
    (stand (.cmdPollR1 .acmd41) [0x01#8]).roundCnt + 1
      = (limited 1 (stand (.cmdPollR1 .acmd41) [0x01#8])).params.acmd41Limit ∧
    (stand (.cmdPollR1 .acmd41) [0x01#8]).roundCnt + 1
      ≠ (limited 2 (stand (.cmdPollR1 .acmd41) [0x01#8])).params.acmd41Limit := by decide

theorem witness_DataResponse :
    (stand (.dataResponse .single) [0xE5#8]).hostIn = [] ∧
    (stand (.dataResponse .single) [0xE5#8]).linkIn = .byte 0xE5#8 :: [] ∧ 0xE5#8 &&& 0x1F#8 = 0x05#8 ∧
    0xFF#8 &&& 0x1F#8 ≠ 0x05#8 ∧ (stand (.blockOutCrcLo .single) [0xE5#8]).phase = .blockOutCrcLo .single := by decide

theorem witness_Payloads :
    (∀ p ∈ [Payload.r7, .ocr], (stand (.payload p) [0xC0#8, 0xFF#8, 0x01#8, 0xAA#8]).hostIn = [] ∧
      (stand (.payload p) [0xC0#8, 0xFF#8, 0x01#8, 0xAA#8]).byteCnt = 0 ∧
      (stand (.payload p) [0xC0#8, 0xFF#8, 0x01#8, 0xAA#8]).linkIn = bytes [0xC0#8, 0xFF#8, 0x01#8, 0xAA#8] ++ []) ∧
    (0x01#8).getLsbD 0 = true ∧ (0x00#8).getLsbD 0 = false ∧ 0xC0#8 &&& 0xC0#8 = 0xC0#8 ∧
    0x80#8 &&& 0xC0#8 ≠ 0xC0#8 := by decide

theorem witness_DataByteIn :
    let s (b : BlockIn) (n : Nat) : State := { stand (.blockIn b) [7#8] with byteCnt := n }
    ((s .csd 15).phase = .blockIn .csd ∧ (s .csd 15).byteCnt < BlockIn.csd.size ∧ (s .csd 15).linkIn = .byte 7#8 :: []) ∧
    ((s .single 511).phase = .blockIn .single ∧ (s .single 511).byteCnt < BlockIn.single.size ∧
      Memory.wf (s .single 511).buf = true) := by decide

theorem witness_ReadBlockDelivers :
    let d := List.replicate 512 0xA5#8
    let s : State := stand (.blockIn .stream) (d ++ [0x42#8, 0xBE#8])
    s.hostIn = [] ∧ BlockIn.stream ≠ .csd ∧ s.phase = .blockIn .stream ∧ s.byteCnt = 0 ∧
    (s.params.dataCrcEnable = true → s.crc16Acc = 0#16) ∧
    d.length = 512 ∧ s.linkIn = bytes (d ++ [0x42#8, 0xBE#8]) ++ [] := by
  exact ⟨rfl, by decide, rfl, rfl, fun _ => rfl, List.length_replicate, (List.append_nil _).symm⟩

theorem witness_WriteBlockCarriesBuf :
    let rs := List.replicate 515 0xFF#8
    let s : State := stand (.blockOutToken .single) rs
    s.hostIn = [] ∧ s.phase = .blockOutToken .single ∧ rs.length = 515 ∧ s.linkIn = bytes rs ++ [] := by
  exact ⟨rfl, rfl, List.length_replicate, (List.append_nil _).symm⟩

theorem witness_CsdDecode :
    let s (e : Bool) (acc : BitVec 16) (csd : Vector Byte 16) : State :=
      { stand (.blockInCrcLo .csd) [0xC6#8] with
        params := { Params.reference with dataCrcEnable := e }, crc16Acc := acc, crcHi := 0x44#8, csd := csd }
    ((s true 0#16 csd7GiB).phase = .blockInCrcLo .csd ∧ (s true 0#16 csd7GiB).linkIn = .byte 0xC6#8 :: [] ∧
      (s true 0#16 csd7GiB).params.dataCrcEnable = true ∧
      (s true 0#16 csd7GiB).crc16Acc ≠ (s true 0#16 csd7GiB).crcHi ++ 0xC6#8) ∧
    ((s true 0x44C6#16 csd7GiB).crc16Acc = (s true 0x44C6#16 csd7GiB).crcHi ++ 0xC6#8 ∧
      csd7GiB[0] &&& 0xC0#8 = 0x40#8) ∧
    (s false 0#16 (csd7GiB.set 0 0x00#8)).csd[0] &&& 0xC0#8 ≠ 0x40#8 := by decide

/-- The hypotheses of `runsAsWritten op` hold of an idle state with these replies. -/
def ends (op : Op) (s : State) : Prop :=
  s.busy = false ∧ s.hostIn = [] ∧ ∃ t, Seq.run op (issued s op) = some t

/-- A state with these replies listed. -/
def answered (s : State) (l : List LinkReply) : State := { s with linkIn := l }

theorem ends_of_isSome {op : Op} {s : State} (h1 : s.busy = false) (h2 : s.hostIn = [])
    (h : (Seq.run op (issued s op)).isSome = true) : ends op s :=
  ⟨h1, h2, Option.isSome_iff_exists.mp h⟩

theorem witness_InitRunsAsWritten :
    ends .init (answered { idle 10#32 with params := { Params.reference with initDummyBytes := 2 } }
      (bytes [0xFF#8, 0xFF#8] ++ readyReplies 0x01#8 ++ readyReplies 0x01#8 ++ bytes [0x00#8, 0x00#8, 0x01#8, 0xAA#8] ++
      readyReplies 0x01#8 ++ readyReplies 0x00#8 ++ readyReplies 0x00#8 ++ bytes [0xC0#8, 0xFF#8, 0x80#8, 0x00#8])) :=
  ends_of_isSome rfl rfl (by decide +kernel)

theorem witness_GetBlocksNumberRunsAsWritten :
    ends .getBlocksNumber (answered (idle 10#32)
      (readyReplies 0x00#8 ++ bytes ([0xFF#8, 0xFE#8] ++ csd7GiB.toList ++ [0x12#8, 0x34#8]))) :=
  ends_of_isSome rfl rfl (by decide +kernel)

theorem witness_ReadSingleBlockRunsAsWritten :
    ends .readSingleBlock (answered (idle 10#32)
      (readyReplies 0x00#8 ++ bytes ([0xFE#8] ++ List.replicate 512 0xA5#8 ++ [0x12#8, 0x34#8]))) :=
  ends_of_isSome rfl rfl (by decide +kernel)

theorem witness_WriteSingleBlockRunsAsWritten :
    ends .writeSingleBlock (answered (idle 10#32)
      (readyReplies 0x00#8 ++ bytes (List.replicate 515 0xFF#8 ++ [0xE5#8, 0x00#8, 0xFF#8]))) :=
  ends_of_isSome rfl rfl (by decide +kernel)

theorem witness_ReadBeginRunsAsWritten :
    ends .readBegin (answered (idle 10#32)
      (readyReplies 0x00#8)) :=
  ends_of_isSome rfl rfl (by decide +kernel)

theorem witness_ReadDataRunsAsWritten :
    ends .readData (answered (idle 10#32)
      (bytes ([0xFF#8, 0xFE#8] ++ List.replicate 512 0xA5#8 ++ [0x12#8, 0x34#8]))) :=
  ends_of_isSome rfl rfl (by decide +kernel)

theorem witness_ReadEndRunsAsWritten :
    ends .readEnd (answered (idle 10#32)
      (readyReplies 0x00#8)) :=
  ends_of_isSome rfl rfl (by decide +kernel)

theorem witness_WriteBeginRunsAsWritten :
    ends .writeBegin (answered (idle 10#32) (readyReplies 0x00#8)) ∧
    ends .writeBegin (answered (idle 10#32) (readyReplies 0x04#8)) :=
  ⟨ends_of_isSome rfl rfl (by decide +kernel), ends_of_isSome rfl rfl (by decide +kernel)⟩

theorem witness_WriteDataRunsAsWritten :
    ends .writeData (answered (idle 10#32) (bytes (List.replicate 515 0xFF#8 ++ [0xE5#8, 0x00#8, 0xFF#8]))) ∧
    ends .writeData (answered (idle 10#32) (bytes (List.replicate 515 0xFF#8 ++ [0x0B#8]))) :=
  ⟨ends_of_isSome rfl rfl (by decide +kernel), ends_of_isSome rfl rfl (by decide +kernel)⟩

theorem witness_WriteEndRunsAsWritten :
    ends .writeEnd (answered (idle 10#32)
      (bytes [0xFF#8, 0xFF#8, 0x00#8, 0xFF#8])) :=
  ends_of_isSome rfl rfl (by decide +kernel)

theorem witness_UnselectCompletes : (idle 0#32).busy = false ∧ (idle 0#32).hostIn = [] := by decide

theorem witness_FailurePath :
    let f : Raised := ⟨.initOcr, .init, 9⟩
    (stand (.failDeselect f) []).hostIn = [] ∧ (stand (.failDeselect f) []).phase = .failDeselect f ∧
    f.op ≠ .readSingleBlock ∧ f.op ≠ .readData ∧ f.op ≠ .getBlocksNumber ∧ 6 ≤ f.label := by decide

theorem witness_FailureCodes : { idle 0#32 with result := 0xDD#8 }.result = Failure.timeoutAcmd41.code := rfl

theorem witness_ResetLeaves : { stand .stopToken [] with hostIn := [.reset] }.hostIn = [.reset] := by decide

/-- An engine idle after an operation that failed. -/
def failed : State := { idle 10#32 with argl := 10#32, opl := 0x1#4, done := true, result := 0xFF#8, csLine := .deasserted }

theorem witness_invariant_failed : Invariant failed where
  busyAgrees := by decide
  notDoneWhileBusy := by decide
  opl := by decide
  argl := fun h => absurd h (by decide)
  cs := by decide
  csLine := by decide
  frame := by decide
  curCmd := by decide
  byteCnt := by decide
  counts := by decide
  crc := fun h => absurd h (by decide)
  result := .inr ⟨.initCmd0, rfl⟩
  buf := by decide

/-- WRITE_END about to send its stop token. -/
def stopping : State :=
  { stand .stopToken [0x00#8] with arg := 10#32, opl := 0xA#4, cs := true, csLine := .asserted, stream := .write }

/-- INIT about to send a dummy byte. -/
def clocking : State := { stand (.initDummy 3) [0xFF#8] with arg := 10#32, opl := 0x1#4, csLine := .deasserted }

theorem witness_invariant_stopping : Invariant stopping where
  busyAgrees := by decide
  notDoneWhileBusy := by decide
  opl := by decide
  argl := by decide
  cs := by decide
  csLine := by decide
  frame := by decide
  curCmd := by decide
  byteCnt := by decide
  counts := by decide
  crc := fun h => absurd h (by decide)
  result := .inl rfl
  buf := by decide

theorem witness_invariant_clocking : Invariant clocking where
  busyAgrees := by decide
  notDoneWhileBusy := by decide
  opl := by decide
  argl := by decide
  cs := by decide
  csLine := by decide
  frame := by decide
  curCmd := by decide
  byteCnt := by decide
  counts := by decide
  crc := fun h => absurd h (by decide)
  result := .inl rfl
  buf := by decide

theorem witness_StepKeepsInv : Invariant stopping ∧ ∃ t, step stopping = .next t := ⟨witness_invariant_stopping, _, rfl⟩

theorem witness_InvAlwaysSteps : Invariant clocking := witness_invariant_clocking

theorem witness_OneLinkEventPerStep :
    (∃ t, step stopping = .next t ∧ stopping.hostIn.head? ≠ some .reset) ∧
    (∃ t, step { stopping with hostIn := [.read 2] } = .next t ∧
      ({ stopping with hostIn := [.read 2] } : State).engineMoves = false) :=
  ⟨⟨_, rfl, by decide⟩, ⟨_, rfl, rfl⟩⟩

theorem witness_ArgIsTheHosts :
    (∃ t, steps stopping t) ∧ (∃ t, exec Op.init.instr (idle 0#32) = .next t) ∧
    (∃ t, ({ idle 0#32 with hostIn := [.write 512 7#32] } : State).hostIn = [.write 512 7#32] ∧ (512 : Nat) ≠ 1 ∧
      step { idle 0#32 with hostIn := [.write 512 7#32] } = .next t) ∧
    Cmd.cmd25.takesBlock = true ∧
    (∃ t, stopping.phase.op = some .writeEnd ∧ Op.writeEnd.takesBlock = false ∧ stopping.engineMoves = true ∧
      step stopping = .next t) :=
  ⟨⟨_, rfl, rfl⟩, ⟨_, rfl⟩, ⟨_, rfl, by decide, rfl⟩, rfl, ⟨_, rfl, rfl, rfl, rfl⟩⟩

/-- Every operation's success completion is a step. -/
theorem witness_steps_complete (op : Op) : steps (stand (.complete op) []) ((stand (.complete op) []).succeed op) :=
  ⟨rfl, rfl⟩

/-- Every failure's completion is a step. -/
theorem witness_steps_failComplete (f : Raised) :
    steps (stand (.failComplete f) []) ((stand (.failComplete f) []).failF2 f) := ⟨rfl, rfl⟩

theorem witness_ResultAtCompletion :
    (∃ t, step stopping = .next t ∧ stopping.hostIn.head? ≠ some .reset) ∧
    (∃ t, steps (stand .illegal []) t ∧ (stand .illegal []).busy = true ∧ t.busy = false ∧
      t.result ≠ (stand .illegal []).result) ∧
    (∃ t, steps State.reset t ∧ State.reset.phase = .idle) :=
  ⟨⟨_, rfl, by decide⟩, ⟨(stand .illegal []).completeIllegal, ⟨rfl, rfl⟩, rfl, rfl, by decide⟩, ⟨State.reset, ⟨rfl, rfl⟩, rfl⟩⟩

theorem witness_WhoWritesWhat :
    (nextOf (step (stand (.complete .init) []))).map (·.initialized) = some true ∧
    (nextOf (step (stand (.complete .readBegin) []))).map (·.stream) = some .read ∧
    (nextOf (step { stand (.blockInCrcLo .csd) [0#8] with csd := csd7GiB, blockCount := 0#33 })).map (·.blockCount)
      = some 15523840#33 ∧
    (nextOf (step { stand (.payload .ocr) [0xC0#8] with resp := #v[0, 0, 0, 0] })).map (·.resp)
      = some #v[0xC0, 0, 0, 0] ∧
    (nextOf (step { stand (.blockIn .csd) [0x12#8] with csd := csd7GiB })).map (·.csd[0]) = some 0x12#8 ∧
    (nextOf (step (stand (.blockIn .single) [0x12#8]))).map (·.buf) = some [(0, 0x12#8)] ∧
    (nextOf (step (stand (.select .writeEnd) []))).map (·.cs) = some true ∧
    (nextOf (step (stand (.select .readBegin) []))).map (·.curCmd) = some 18#6 ∧
    (nextOf (step { stand (.cmdPollR1 .cmd9) [0x00#8] with r1 := 0x7F#8 })).map (·.r1) = some 0x00#8 ∧
    (nextOf (step { stand (.dataResponse .single) [0xE5#8] with dresp := 0#8 })).map (·.dresp) = some 0xE5#8 ∧
    (nextOf (step { stand (.tokenWait .single) [0x08#8] with token := 0#8 })).map (·.token) = some 0x08#8 ∧
    (nextOf (step (stand .illegal []))).map (fun t => (t.busy, t.done, t.result)) = some (false, true, 0xC0#8) ∧
    (nextOf (step (stand (.cmdPollR1 .cmd9) [0x80#8]))).map (·.pollCnt) = some 1 ∧
    (nextOf (step (stand (.cmdPollR1 .acmd41) [0x01#8]))).map (·.roundCnt) = some 1 ∧
    (nextOf (step (stand (.blockOut .single) [0xFF#8]))).map (·.byteCnt) = some 1 ∧
    (nextOf (step { stand (.tokenWait .single) [0xFE#8] with
      params := { Params.reference with dataCrcEnable := true }, crc16Acc := 1#16 })).map (·.crc16Acc) = some 0#16 ∧
    (nextOf (step (stand (.select .readEnd) []))).map (·.txFrame) = some 0x4C0000000061#48 ∧
    (nextOf (step (stand (.blockInCrcHi .csd) [0x44#8]))).map (·.crcHi) = some 0x44#8 := by
  decide +kernel

theorem witness_SessionFlags :
    mayIssue { stand (.complete .readData) [] with stream := .read } .readData = true ∧
    mayIssue { stand (.complete .writeData) [] with stream := .write } .writeData = true ∧
    mayIssue (stand (.complete .unselect) []) .unselect = true := by decide

theorem witness_ExchangesWhileSelected :
    (Invariant stopping ∧ ∃ t, steps stopping t ∧ t.trace = stopping.trace ++ [.x 0xFD#8 0x00#8]) ∧
    (Invariant clocking ∧ ∃ t, steps clocking t ∧ t.trace = clocking.trace ++ [.x 0xFF#8 0xFF#8]) ∧
    (Invariant failed ∧ steps failed failed ∧ failed.phase = .idle) :=
  ⟨⟨witness_invariant_stopping, _, ⟨rfl, rfl⟩, rfl⟩, ⟨witness_invariant_clocking, _, ⟨rfl, rfl⟩, rfl⟩,
    witness_invariant_failed, ⟨rfl, rfl⟩, rfl⟩

theorem witness_SessionFlagsUnread :
    (∀ n, stopping.hostIn.head? ≠ some (.read n)) ∧ ∃ t, step stopping = .next t := ⟨by simp [stopping, stand, State.reset, State.afterReset], _, rfl⟩

theorem witness_DiscardedBytesUnread :
    (∀ p ∈ [Phase.stopToken, .cmdStuff, .blockInCrcHi .csd, .blockInCrcLo .single],
      (stand p [0x00#8]).discards = true ∧ (stand p [0x00#8]).engineMoves = true ∧
      (stand p [0x00#8]).linkIn = .byte 0x00#8 :: [] ∧ (nextOf (step (stand p [0x00#8]))).isSome = true) ∧
    (stand (.blockInCrcLo .single) [0x00#8]).params.dataCrcEnable = false := by decide

theorem witness_UnboundedPollHangs :
    let s (p : Phase) (rs : List Byte) : State := stand p rs
    (s .idle []).params.notBusyLimit = 0 ∧ (s .idle []).params.r1Limit = 0 ∧ (s .idle []).params.tokenLimit = 0 ∧
    (s (.cmdWait .cmd0) [0x00#8]).busy = true ∧ (s (.cmdWait .cmd0) [0x00#8]).phase.keepsWaiting 0x00#8 = true ∧
    (s (.programWait .afterSingle) [0xFE#8]).phase.keepsWaiting 0xFE#8 = true ∧
    (s (.cmdPollR1 .cmd9) [0xFF#8]).phase.keepsWaiting 0xFF#8 = true ∧
    (s (.tokenWait .csd) [0xFF#8]).phase.keepsWaiting 0xFF#8 = true ∧
    (s (.tokenWait .csd) [0xFF#8]).linkIn = bytes [0xFF#8] ++ [] ∧
    (stopping.sends ≠ none ∧ frameAgrees stopping = true ∧ ([.blocked] : List LinkReply).head? = some .blocked) := by
  decide

/-- A card that is ready at once answers R1 0x01 to CMD55 and to ACMD41, twice. -/
theorem witness_UnboundedPollHangs_rounds :
    let c : List Byte := List.replicate 7 0xFF#8 ++ [0x01#8]
    let s : State := stand (.cmdWait .cmd55) [c ++ c, c ++ c].flatten
    initialisingRound (c ++ c) ∧ s.hostIn = [] ∧ s.busy = true ∧ s.phase = .cmdWait .cmd55 ∧
    s.params.notBusyLimit = 0 ∧ s.params.r1Limit = 0 ∧ s.params.acmd41Limit = 0 ∧
    s.linkIn = bytes [c ++ c, c ++ c].flatten ++ [] := by
  refine ⟨?_, rfl, rfl, rfl, rfl, rfl, rfl, (List.append_nil _).symm⟩
  have h : answersCommand (List.replicate 7 0xFF#8 ++ [0x01#8]) 0x01#8 :=
    ⟨[], List.replicate 6 0xFF#8, [], by simp, rfl, by simp, rfl⟩
  exact ⟨_, _, h, h, rfl⟩

theorem witness_HostReads :
    (∀ n, ({ idle 0#32 with hostIn := [.read n] } : State).hostIn = .read n :: []) ∧ (idle 0#32).busy = false ∧
    stopping.busy = true ∧ 3 = (3 : Fin 4).val ∧ 15 = (15 : Fin 16).val ∧ 511 < 512 := by
  exact ⟨fun _ => rfl, rfl, rfl, rfl, rfl, by decide⟩

theorem witness_HostWrites :
    (idle 0#32).busy = false ∧
    ∀ n, ({ idle 0#32 with hostIn := [.write n 7#32] } : State).hostIn = .write n 7#32 :: [] := ⟨rfl, fun _ => rfl⟩

theorem witness_DiskAdapterIsThin :
    HostEvent.write 0 0x3#32 ∈ ((Disk.begin 33 (.diskRead 5#32 1)).move 0#32).2 ∧
    ({ Disk.begin 33 .diskInit with pos := .result } : Disk).pos = .result ∧ (0xFFFFFFFF#32 : Word) ≠ 0#32 ∧
    (Disk.begin 33 .diskInit).call ≠ .diskStatus ∧
    ({ Disk.begin 32 (.diskIoctl .sectorCount) with pos := .countLo } : Disk).pos = .countLo ∧
    (∀ q ∈ [DiskQuery.sectorSize, .eraseBlockSize, .other], (Disk.begin 33 (.diskIoctl q)).pos = .start) := by decide

end Sys2Proof.Tests
end

section
/-! SUPPORT. ARG and ARGL in the engine (10 R11, R23): no engine step and no issuing step writes ARG, and ARGL is read at one
place only, where the frame of a block command is built. The second fact is a commuting square per piece of the sequencer:
putting other operands in and then making the piece's move is making the move and then putting them in. -/

namespace Sys2Proof.Machine

/-! ## Nothing writes ARG -/

@[simp] theorem State.issue_arg (s : State) (code : BitVec 4) (p : Phase) : (s.issue code p).arg = s.arg := by
  unfold State.issue; split <;> rfl

@[simp] theorem State.afterBusyPoll_arg (s : State) (r : Byte) {ready : State → State} (op : Op) (label : Nat)
    (h : ∀ u, (ready u).arg = u.arg) : (s.afterBusyPoll r ready op label).arg = s.arg := by
  rcases s.afterBusyPoll_cases r ready op label with ⟨_, e⟩ | ⟨_, _, e⟩ | ⟨_, _, e⟩ <;> simp [e, h]

@[simp] theorem State.received_arg (r : Byte) (s : State) : (State.received r s).arg = s.arg := by
  unfold State.received; split <;> simp

@[simp] theorem State.callStep_arg (s : State) : s.callStep.arg = s.arg := by
  unfold State.callStep; split <;> simp

@[simp] theorem State.sequencerStep_arg (s : State) : s.sequencerStep.arg = s.arg := by
  rcases s.sequencerStep_cases with ⟨_, _, _, e⟩ | ⟨_, _, _, _, e⟩ | ⟨_, e⟩ <;> simp [e]

@[simp] theorem State.sendFrame_arg (s : State) (c : Cmd) (f : Frame) : (s.sendFrame c f).arg = s.arg := by
  unfold State.sendFrame
  rcases State.exchange_cases { s with phase := .cmdFrame c 0, txFrame := f } (frameByte f 0)
    (fun _ u => u.afterFrameByte c 0) with ⟨_, e⟩ | ⟨_, _, e⟩ <;> simp [e]

/-- An engine step keeps ARG. -/
theorem engineStep_arg {s t : State} (h : engineStep s = .next t) : t.arg = s.arg := by
  rcases engineStep_cases s with e | ⟨c, _, _, e | ⟨c', e⟩⟩ <;> rw [e] at h <;> cases h <;> simp

/-- A host code's row is an issuing step. -/
theorem exec_decodeOp (code : BitVec 4) : ∃ c p, ∀ s, exec (decodeOp code) s = .next (s.issue c p) := by
  unfold decodeOp; split <;> exact ⟨_, _, fun _ => rfl⟩

/-- An operation's row is its issuing step. -/
theorem exec_op (op : Op) (s : State) : exec op.instr s = .next (s.issue op.code op.firstPhase) := by
  cases op <;> rfl

/-- Register 1 alone is ARG. -/
theorem hostReg_eq_arg_iff (n : Nat) : hostReg n = .arg ↔ n = 1 := by
  unfold hostReg; split_ifs <;> simp_all

/-- A host write to a number other than 1 keeps ARG. -/
theorem State.hostWrite_arg {n : Nat} (h : n ≠ 1) (s : State) (v : Word) : (s.hostWrite n v).arg = s.arg := by
  have hn : hostReg n ≠ .arg := fun e => h ((hostReg_eq_arg_iff n).mp e)
  unfold State.hostWrite; split_ifs
  · rfl
  · split <;> simp_all

/-- A host write to a number other than 1, `CTRL` included, keeps ARG. -/
theorem hostWriteStep_arg {n : Nat} (h : n ≠ 1) {v : Word} {s t : State} (ht : hostWriteStep n v s = .next t) :
    t.arg = s.arg := by
  by_cases h0 : n = 0
  · subst h0
    obtain ⟨c, p, e⟩ := exec_decodeOp (v.extractLsb' 0 4)
    rw [hostWriteStep_ctrl, e] at ht; cases ht; simp
  · rw [hostWriteStep_other h0] at ht; cases ht; exact State.hostWrite_arg h s v

/-! ## Which commands take the block index -/

theorem Cmd.argument_of_takesBlock {c : Cmd} (h : c.takesBlock = true) (a : Word) : c.argument a = a := by
  cases c <;> simp_all [Cmd.takesBlock, Cmd.argument]

theorem Cmd.argument_of_not_takesBlock {c : Cmd} (h : c.takesBlock = false) (a b : Word) :
    c.argument a = c.argument b := by
  cases c <;> simp_all [Cmd.takesBlock, Cmd.argument]

theorem Cmd.frame_of_not_takesBlock {c : Cmd} (h : c.takesBlock = false) (a b : Word) : c.frame a = c.frame b := by
  simp only [Cmd.frame, Cmd.argument_of_not_takesBlock h a b]

/-- A command takes the block index exactly when the operation that sends it does. -/
@[simp] theorem Cmd.op_takesBlock (c : Cmd) : c.op.takesBlock = c.takesBlock := by cases c <;> rfl

/-! ## Other operands -/

/-- `s` with `a` in ARG and `l` in ARGL. -/
def State.withOperands (s : State) (a l : Word) : State := { s with arg := a, argl := l }

section
variable (s : State) (a l : Word)

/-- The operands put in after a choice are put in on both branches of it. -/
theorem State.withOperands_ite (c : Prop) [Decidable c] (t : State) :
    (if c then s else t).withOperands a l = if c then s.withOperands a l else t.withOperands a l :=
  apply_ite (State.withOperands · a l) c s t

theorem State.startCommand_withOperands (c : Cmd) :
    (s.withOperands a l).startCommand c = (s.startCommand c).withOperands a l := by
  unfold State.startCommand; split
  · next h => subst h; rfl
  · rfl

theorem State.startFrame_withOperands {c : Cmd} (h : c.takesBlock = false) :
    (s.withOperands a l).startFrame c = (s.startFrame c).withOperands a l := by
  simp [State.startFrame, State.withOperands, Cmd.frame_of_not_takesBlock h l s.argl]

theorem State.afterDummy_withOperands (n : Nat) :
    (s.withOperands a l).afterDummy n = (s.afterDummy n).withOperands a l := by
  simp only [State.afterDummy, State.withOperands_ite]; rfl

theorem State.afterBusyPoll_withOperands (r : Byte) {ready : State → State} (op : Op) (label : Nat)
    (h : ∀ u : State, ready (u.withOperands a l) = (ready u).withOperands a l) :
    (s.withOperands a l).afterBusyPoll r ready op label = (s.afterBusyPoll r ready op label).withOperands a l := by
  simp only [State.afterBusyPoll, State.withOperands_ite, ← h { s with pollCnt := s.pollCnt + 1 }]; rfl

theorem State.afterFrameByte_withOperands (c : Cmd) (i : Fin 6) :
    (s.withOperands a l).afterFrameByte c i = (s.afterFrameByte c i).withOperands a l := by
  unfold State.afterFrameByte; split_ifs <;> rfl

theorem State.afterCommand_withOperands (c : Cmd) :
    (s.withOperands a l).afterCommand c = (s.afterCommand c).withOperands a l := by
  cases c <;> rfl

theorem State.checkR1_withOperands (c : Cmd) (r : Byte) :
    (s.withOperands a l).checkR1 c r = (s.checkR1 c r).withOperands a l := by
  simp only [State.checkR1, State.afterAcmd41, State.afterCommand_withOperands, State.withOperands_ite]; rfl

theorem State.afterR1Poll_withOperands (c : Cmd) (r : Byte) :
    (s.withOperands a l).afterR1Poll c r = (s.afterR1Poll c r).withOperands a l := by
  simp only [State.afterR1Poll, State.withOperands_ite, ← State.checkR1_withOperands]; rfl

theorem State.afterPayloadByte_withOperands (p : Payload) (r : Byte) :
    (s.withOperands a l).afterPayloadByte p r = (s.afterPayloadByte p r).withOperands a l := by
  cases p <;> simp only [State.afterPayloadByte, State.checkPayload, State.withOperands_ite] <;> rfl

theorem State.afterTokenPoll_withOperands (b : BlockIn) (r : Byte) :
    (s.withOperands a l).afterTokenPoll b r = (s.afterTokenPoll b r).withOperands a l := by
  simp only [State.afterTokenPoll, State.withOperands_ite]; rfl

theorem State.accumulate_withOperands (r : Byte) :
    (s.withOperands a l).accumulate r = (s.accumulate r).withOperands a l := by
  simp only [State.accumulate, State.withOperands_ite]; rfl

theorem State.storeByte_withOperands (b : BlockIn) (r : Byte) :
    (s.withOperands a l).storeByte b r = (s.storeByte b r).withOperands a l := by
  cases b <;> simp only [State.storeByte, State.setBuf, State.withOperands_ite] <;> rfl

theorem State.afterDataIn_withOperands (b : BlockIn) (r : Byte) :
    (s.withOperands a l).afterDataIn b r = (s.afterDataIn b r).withOperands a l := by
  simp only [State.afterDataIn, State.storeByte_withOperands, State.accumulate_withOperands, State.withOperands_ite]
  rfl

theorem State.afterCrcLoIn_withOperands (b : BlockIn) (r : Byte) :
    (s.withOperands a l).afterCrcLoIn b r = (s.afterCrcLoIn b r).withOperands a l := by
  cases b <;> simp only [State.afterCrcLoIn, State.blockReceived, State.withOperands_ite] <;> rfl

theorem State.afterDataOut_withOperands (b : BlockOut) :
    (s.withOperands a l).afterDataOut b = (s.afterDataOut b).withOperands a l := by
  simp only [State.afterDataOut, State.accumulate_withOperands, State.withOperands_ite]; rfl

theorem State.afterDataResponse_withOperands (b : BlockOut) (r : Byte) :
    (s.withOperands a l).afterDataResponse b r = (s.afterDataResponse b r).withOperands a l := by
  simp only [State.afterDataResponse, State.withOperands_ite]; rfl

theorem State.afterInitDeselect_withOperands :
    (s.withOperands a l).afterInitDeselect = s.afterInitDeselect.withOperands a l := by
  simp only [State.afterInitDeselect, State.withOperands_ite]; rfl

theorem State.afterSelect_withOperands (op : Op) :
    (s.withOperands a l).afterSelect op = (s.afterSelect op).withOperands a l := by
  cases op <;> rfl

theorem State.spoil_withOperands (f : Raised) : (s.withOperands a l).spoil f = (s.spoil f).withOperands a l := by
  unfold State.spoil; split
  case h_4 => simp only [State.withOperands_ite]; rfl
  all_goals rfl

theorem State.failF2_withOperands (f : Raised) : (s.withOperands a l).failF2 f = (s.failF2 f).withOperands a l := by
  simp only [State.failF2, State.spoil_withOperands]; rfl

theorem State.succeed_withOperands (op : Op) : (s.withOperands a l).succeed op = (s.succeed op).withOperands a l := by
  cases op <;> rfl

/-! ## The step with other operands -/

/-- The byte received is handled alike, but where the wait-not-busy of a block command ends and its frame is built. -/
theorem State.received_withOperands (r : Byte) (h : ∀ c, s.phase = .cmdWait c → c.takesBlock = false) :
    State.received r (s.withOperands a l) = (State.received r s).withOperands a l := by
  have hw : (s.withOperands a l).phase = s.phase := rfl
  cases hp : s.phase <;> simp only [State.received, hw, hp]
  case initDummy => exact s.afterDummy_withOperands ..
  case cmdWait c => exact s.afterBusyPoll_withOperands _ _ r _ _ fun u => u.startFrame_withOperands a l (h c hp)
  case cmdFrame => exact s.afterFrameByte_withOperands ..
  case cmdPollR1 => exact s.afterR1Poll_withOperands ..
  case payload => exact s.afterPayloadByte_withOperands ..
  case tokenWait => exact s.afterTokenPoll_withOperands ..
  case blockIn => exact s.afterDataIn_withOperands ..
  case blockInCrcLo => exact s.afterCrcLoIn_withOperands ..
  case blockOut => exact s.afterDataOut_withOperands ..
  case dataResponse => exact s.afterDataResponse_withOperands ..
  case programWait => exact s.afterBusyPoll_withOperands _ _ r _ _ fun _ => rfl
  all_goals rfl

theorem State.callStep_withOperands : (s.withOperands a l).callStep = s.callStep.withOperands a l := by
  have hw : (s.withOperands a l).phase = s.phase := rfl
  cases hp : s.phase <;> simp only [State.callStep, hw, hp]
  case initDeselect => exact s.csDeassert.afterInitDeselect_withOperands a l
  case select op => exact s.csAssert.afterSelect_withOperands a l op
  case complete op => exact s.succeed_withOperands a l op
  case failComplete f => exact s.failF2_withOperands a l f
  all_goals rfl

theorem State.exchange_withOperands (t : Byte) {k : Byte → State → State}
    (h : ∀ r, k r ((s.exchanged t r).withOperands a l) = (k r (s.exchanged t r)).withOperands a l) :
    (s.withOperands a l).exchange t k = (s.exchange t k).withOperands a l := by
  have hr : (s.withOperands a l).reply t = s.reply t := rfl
  cases hs : s.reply t <;> simp only [State.exchange, hr, hs]
  case blocked => rfl
  case byte r => exact h r

theorem State.sequencerStep_withOperands (h : ∀ c, s.phase = .cmdWait c → c.takesBlock = false) :
    (s.withOperands a l).sequencerStep = s.sequencerStep.withOperands a l := by
  have hw : (s.withOperands a l).sends = s.sends := rfl
  cases hs : s.sends <;> simp only [State.sequencerStep, hw, hs]
  case none => exact s.callStep_withOperands a l
  case some t =>
    exact s.exchange_withOperands a l t fun r => (s.exchanged t r).received_withOperands a l r (by simpa using h)

theorem State.sendFrame_withOperands (c : Cmd) (f : Frame) :
    (s.withOperands a l).sendFrame c f = (s.sendFrame c f).withOperands a l :=
  State.exchange_withOperands { s with phase := .cmdFrame c 0, txFrame := f } a l _
    fun _ => State.afterFrameByte_withOperands ..

end

/-- At a frame's first byte the frame register alone says what the step does: nothing it holds decodes, or it goes out as
one command's frame. -/
theorem engineStep_frameStart (f : Frame) :
    (∀ s c, s.phase = .cmdFrame c 0 → s.txFrame = f → engineStep s = .fault .badFrame) ∨
    ∃ c', ∀ s c, s.phase = .cmdFrame c 0 → s.txFrame = f → engineStep s = .next (s.sendFrame c' f) := by
  cases hd : decodeFrame f with
  | error e =>
    exact .inl fun s c hp hf => by simp [engineStep, State.fetch, hp, hf, fetchFrame, decode, hd]
  | ok i =>
    obtain ⟨c', he⟩ := exec_of_decodeFrame hd
    exact .inr ⟨c', fun s c hp hf => by simp [engineStep, State.fetch, hp, hf, fetchFrame, decode, hd, he]⟩

/-- Anywhere else the engine's step is the sequencer's. -/
theorem engineStep_eq_sequencerStep {s : State} (h : ∀ c, s.phase ≠ .cmdFrame c 0) :
    engineStep s = .next s.sequencerStep :=
  (engineStep_cases s).resolve_right fun ⟨c, hc, _⟩ => h c hc

/-- ARG and ARGL are not read by an engine step, but where the wait-not-busy of a block command ends. -/
theorem engineStep_withOperands {s t : State} (a l : Word) (h : ∀ c, s.phase = .cmdWait c → c.takesBlock = false)
    (ht : engineStep s = .next t) : engineStep (s.withOperands a l) = .next (t.withOperands a l) := by
  by_cases hp : ∃ c, s.phase = .cmdFrame c 0
  · obtain ⟨c, hp⟩ := hp
    rcases engineStep_frameStart s.txFrame with e | ⟨c', e⟩
    · rw [e s c hp rfl] at ht; cases ht
    · rw [e s c hp rfl] at ht; cases ht
      rw [e (s.withOperands a l) c hp rfl, State.sendFrame_withOperands]
  · have hp : ∀ c, s.phase ≠ .cmdFrame c 0 := fun c hc => hp ⟨c, hc⟩
    rw [engineStep_eq_sequencerStep hp] at ht; cases ht
    rw [engineStep_eq_sequencerStep (s := s.withOperands a l) hp, State.sequencerStep_withOperands s a l h]

/-- The wait of a position whose operation has no block operand is no block command's. -/
theorem Phase.cmdWait_of_op {p : Phase} {op : Op} (hp : p.op = some op) (hop : op.takesBlock = false) (c : Cmd)
    (hc : p = .cmdWait c) : c.takesBlock = false := by
  subst hc; cases hp; simpa using hop

/-- Settles O50. Every engine step and every issuing step keeps ARG; an operation without a block operand never stands
in the wait of a block command, and an engine step reads the operands at no other position. -/
theorem argIsTheHosts : Obligations.ArgIsTheHosts := by
  refine ⟨?engine, ?issue, ?host, ?framed, ?unread⟩
  case engine =>
    rintro s t ⟨hm, ht⟩
    rw [step_engine hm] at ht
    simpa using engineStep_arg ht
  case issue =>
    intro op s t ht
    rw [exec_op] at ht; cases ht
    exact s.issue_arg op.code op.firstPhase
  case host =>
    intro s t rest n v hs hn ht
    simp only [step, hs] at ht
    simpa using hostWriteStep_arg hn ht
  case framed => exact fun c a h => ⟨Cmd.argument_of_takesBlock h a, by simpa using h⟩
  case unread =>
    intro s t op a l hop hblock hm ht
    rw [step_engine hm] at ht
    rw [step_engine (s := { s with arg := a, argl := l }) hm]
    have hwait := Phase.cmdWait_of_op hop hblock
    exact engineStep_withOperands (s := { s with hostIn := s.hostIn.tail }) a l hwait ht

end Sys2Proof.Machine
end

section
/-! SUPPORT. The six bytes of a frame word (30 R60, R73), each a field of it or two fields side by side. -/

namespace Sys2Proof.Machine

/-- Start and transmission bit before an index, as `0x40 | index`. -/
theorem startByte_eq_or : ∀ index : BitVec 6, 0b01#2 ++ index = 0x40#8 ||| index.setWidth 8 := by decide

/-- A CRC7 before the stop bit, as `(crc7 << 1) | 1`. -/
theorem crcByte_eq_or : ∀ crc : BitVec 7, crc ++ 1#1 = (crc.setWidth 8 <<< 1) ||| 1#8 := by decide

theorem frameHead_eq (index : BitVec 6) (arg : Word) :
    frameHead index arg = [0x40#8 ||| index.setWidth 8, arg.extractLsb' 24 8, arg.extractLsb' 16 8,
      arg.extractLsb' 8 8, arg.extractLsb' 0 8] := by
  rw [frameHead, startByte_eq_or]

/-- Eight bits of a frame that lie in its argument field, read from that field. -/
theorem extractLsb'_argumentField (f : Frame) {i : Nat} (h : i + 8 ≤ 32) :
    (f.extractLsb' 8 32).extractLsb' i 8 = f.extractLsb' (8 + i) 8 := by
  apply BitVec.eq_of_getLsbD_eq
  intro j hj
  simp [hj, show i + j < 32 by omega, Nat.add_assoc]

/-- The bytes of a frame word, whatever CRC7 it carries: the head, then CRC7 and stop bit. -/
theorem frameBytes_frameWord (index : BitVec 6) (arg : Word) (crc : BitVec 7) :
    (List.finRange 6).map (frameByte (frameWord index arg crc)) = frameHead index arg ++ [crc ++ 1#1] := by
  obtain ⟨hstart, hstop, hindex, harg, hcrc⟩ := frameWord_fields index arg crc
  generalize frameWord index arg crc = f at *
  have hfirst : frameByte f 0 = 0b01#2 ++ index := by
    rw [← hstart, ← hindex]
    exact (BitVec.extractLsb'_append_extractLsb'_eq_extractLsb' (x := f) (start₁ := 40) (len₁ := 6) rfl).symm
  have hlast : frameByte f 5 = crc ++ 1#1 := by
    rw [← hcrc, ← hstop]
    exact (BitVec.extractLsb'_append_extractLsb'_eq_extractLsb' (x := f) (start₁ := 0) (len₁ := 1) rfl).symm
  have hmiddle (i : Fin 6) (k : Nat) (hk : k + 8 ≤ 32) (hi : 8 * (5 - i.val) = 8 + k) :
      frameByte f i = arg.extractLsb' k 8 := by
    rw [← harg, extractLsb'_argumentField f hk, frameByte, hi]
  simp [List.finRange, frameHead, hfirst, hlast, hmiddle 1 24, hmiddle 2 16, hmiddle 3 8, hmiddle 4 0]

/-- Settles O4. The fields are `frameWord`'s own, the bytes are its bytes with the head and the CRC byte rewritten to
R60's form, and a command's frame is the frame word of its index and argument. -/
theorem frameLayout : Obligations.FrameLayout := by
  intro index arg
  simp only [← frameHead_eq, ← crcByte_eq_or]
  refine ⟨?fields, ?bytes, ?commands⟩
  case fields => rfl
  case bytes => exact frameBytes_frameWord index arg _
  case commands => rintro c argl rfl rfl; rfl

end Sys2Proof.Machine
end

section
/-! SUPPORT. The block count of a CSD over the naturals (43 R152). -/

namespace Sys2Proof.Machine

/-- The field's part of CSD byte 7, as `CSD[7] & 0x3F`. -/
theorem extractLsb'_six_eq_and (b : Byte) : (b.extractLsb' 0 6).toNat = (b &&& 0x3F#8).toNat := by
  rw [BitVec.extractLsb'_toNat, BitVec.toNat_and, Nat.shiftRight_zero]
  exact (Nat.and_two_pow_sub_one_eq_mod b.toNat 6).symm

/-- Bytes set side by side are shifted and or-ed. -/
theorem toNat_cSize (csd : Vector Byte 16) :
    (cSize csd).toNat = ((csd[7] &&& 0x3F#8).toNat <<< 16) ||| (csd[8].toNat <<< 8) ||| csd[9].toNat := by
  simp only [cSize, BitVec.toNat_append, extractLsb'_six_eq_and, Nat.shiftLeft_or_distrib, ← Nat.shiftLeft_add]

/-- A 22-bit C_SIZE leaves the sum and the shift below `2 ^ 33`, so neither wraps. -/
theorem toNat_blockCountOf (csd : Vector Byte 16) : (blockCountOf csd).toNat = ((cSize csd).toNat + 1) <<< 10 := by
  have hfield : (cSize csd).toNat < 2 ^ 22 := (cSize csd).isLt
  have hsum : ((cSize csd).setWidth 33 + 1#33).toNat = (cSize csd).toNat + 1 := by
    rw [BitVec.toNat_add, BitVec.toNat_setWidth, BitVec.toNat_ofNat]
    omega
  rw [blockCountOf, BitVec.toNat_shiftLeft, hsum, Nat.shiftLeft_eq]
  omega

/-- Settles O30. The field's value and the count's are the two lemmas above; the range is the field's 22 bits. -/
theorem blockCountArithmetic : Obligations.BlockCountArithmetic := by
  intro csd
  dsimp only
  rw [← toNat_cSize]
  have hrange : (cSize csd).toNat ≤ 4194303 := Nat.le_of_lt_succ (cSize csd).isLt
  exact ⟨rfl, hrange, toNat_blockCountOf csd, (toNat_blockCountOf csd).trans (Nat.shiftLeft_eq _ 10)⟩

end Sys2Proof.Machine
end

section
/-! SUPPORT. The encodings: each kind of code decodes back, and what decodes is its row's encoding. -/

namespace Sys2Proof.Machine

/-! ## Decoding what was encoded -/

/-- The R1 row is read back from its byte. -/
theorem decode_r1Poll : ∀ flags : BitVec 7, decode (.r1Poll (0#1 ++ flags)) = .ok (.r1 flags) := by decide

/-- The accepted data response is read back from its byte, with its ignored bits. -/
theorem decode_dataResponse : ∀ ignored : BitVec 3,
    decode (.dataResponse (ignored ++ 0b00101#5)) = .ok (.dataResponseAccepted ignored) := by decide

/-- Settles O1. The block frames are read back by their fields, R1 and the data response bit by bit; every other row has
one word, which the decoder computes. -/
theorem decodeOfEncode : Obligations.DecodeOfEncode := by
  intro i
  cases i
  case cmd17 block crc => exact decodeFrame_frameWord 17#6 block crc
  case cmd18 block crc => exact decodeFrame_frameWord 18#6 block crc
  case cmd24 block crc => exact decodeFrame_frameWord 24#6 block crc
  case cmd25 block crc => exact decodeFrame_frameWord 25#6 block crc
  case r1 flags => exact decode_r1Poll flags
  case dataResponseAccepted ignored => exact decode_dataResponse ignored
  all_goals decide

/-! ## Encoding what was decoded -/

/-- A host code is encoded as the four bits it was decoded from. -/
theorem encode_decodeOp : ∀ code : BitVec 4, encode (decodeOp code) = .ctrl (code.setWidth 32) := by decide

/-- The four bits a `CTRL` value is decoded by are the value without its ignored bits. -/
theorem extractLsb'_four_eq_and (v : Word) : (v.extractLsb' 0 4).setWidth 32 = v &&& 0xF#32 := by
  apply BitVec.eq_of_toNat_eq
  rw [BitVec.toNat_setWidth, BitVec.extractLsb'_toNat, BitVec.toNat_and, Nat.shiftRight_zero,
    Nat.mod_eq_of_lt (by omega)]
  exact (Nat.and_two_pow_sub_one_eq_mod v.toNat 4).symm

/-- A constant frame decodes to its row exactly when it carries the row's argument and CRC7. -/
theorem decodeConstant_eq_ok {i j : Instr} {arg wantArg : Word} {crc wantCrc : BitVec 7}
    (h : decodeConstant i arg crc wantArg wantCrc = .ok j) : arg = wantArg ∧ crc = wantCrc ∧ j = i := by
  unfold decodeConstant at h
  split at h <;> [skip; cases h]
  split at h <;> [skip; cases h]
  cases h
  exact ⟨‹_›, ‹_›, rfl⟩

/-- What a command's fields decode to is encoded as the frame of those fields. -/
theorem encode_of_decodeCommand {index : BitVec 6} {arg : Word} {crc : BitVec 7} {i : Instr}
    (h : decodeCommand index arg crc = .ok i) : encode i = .frame (frameWord index arg crc) := by
  have hindex (n : Nat) (hn : index.toNat = n) : index = BitVec.ofNat 6 n := by simp [← hn]
  unfold decodeCommand at h
  split at h
  case h_5 hn => cases h; rw [hindex _ hn]; rfl
  case h_6 hn => cases h; rw [hindex _ hn]; rfl
  case h_7 hn => cases h; rw [hindex _ hn]; rfl
  case h_8 hn => cases h; rw [hindex _ hn]; rfl
  case h_12 => cases h
  all_goals
    rename_i hn
    obtain ⟨rfl, rfl, rfl⟩ := decodeConstant_eq_ok h
    rw [hindex _ hn]
    decide

/-- A frame that decodes is its row's encoding. -/
theorem encode_of_decodeFrame {f : Frame} {i : Instr} (h : decodeFrame f = .ok i) : encode i = .frame f := by
  unfold decodeFrame at h
  split at h <;> [skip; cases h]
  rename_i hfixed
  rw [encode_of_decodeCommand h, frameWord_of_fields hfixed.1 hfixed.2]

/-- A sent byte that decodes is its row's encoding. -/
theorem encode_of_decodeSent {t : Byte} {i : Instr} (h : decodeSent t = .ok i) : encode i = .sent t := by
  unfold decodeSent at h
  split_ifs at h <;> cases h <;> subst_vars <;> rfl

/-- Settles O2. By the kind of code: a host code keeps its four bits, a frame its fields, a sent byte is one of four, and a
received byte is put together again from the fields it was decoded to. -/
theorem encodeOfDecode : Obligations.EncodeOfDecode := by
  intro c i h
  cases c with
  | ctrl v =>
    cases h
    exact (encode_decodeOp _).trans (congrArg Code.ctrl (extractLsb'_four_eq_and v))
  | frame f => exact encode_of_decodeFrame h
  | sent t => exact encode_of_decodeSent h
  | r1Poll r =>
    simp only [decode] at h
    split at h <;> cases h
    exact congrArg Code.r1Poll (r1Byte_split r ‹_›)
  | tokenWait r =>
    simp only [decode] at h
    split at h <;> cases h
    exact congrArg Code.tokenWait (Eq.symm ‹_›)
  | dataResponse r =>
    simp only [decode] at h
    split at h <;> cases h
    exact congrArg Code.dataResponse (dataResponse_split r ‹_›)

/-! ## Known words and frames -/

/-- Settles O3. Each word is a closed one, which the decoder computes. -/
theorem knownWords : Obligations.KnownWords := by
  unfold Obligations.KnownWords; decide

/-- A row's frame, as the encoder writes it, is the frame the engine builds for its command. -/
theorem encode_row (c : Cmd) (argl : Word) : encode (c.row argl) = .frame (c.frame argl) :=
  encode_of_decodeFrame (decodeFrame_frame argl c)

/-- The frame of a command whose row has one word is that word. -/
theorem frame_of_encode_row {c : Cmd} {argl : Word} {f : Frame} (h : encode (c.row argl) = .frame f) :
    c.frame argl = f :=
  Code.frame.inj ((encode_row c argl).symm.trans h)

/-- Settles O5. The constant frames are the words of their rows; the rest are closed computations. -/
theorem knownCrcs : Obligations.KnownCrcs := by
  unfold Obligations.KnownCrcs
  refine ⟨fun a => ?constant, ?closed⟩
  case constant => refine ⟨?_, ?_, ?_, ?_, ?_, ?_, ?_⟩ <;> exact frame_of_encode_row rfl
  case closed => decide +kernel

/-- The row of a command carries the CRC7 of its own frame. -/
theorem Cmd.row_wellFormed (c : Cmd) (argl : Word) : (c.row argl).wellFormed = true := by
  cases c <;> simp [Cmd.row, Instr.wellFormed]

/-- Settles O6. -/
theorem engineFramesAreRows : Obligations.EngineFramesAreRows :=
  fun c argl => ⟨c.row_wellFormed argl, encode_row c argl, decodeFrame_frame argl c⟩

/-! ## CRC16 of data and its CRC -/

/-- While bit 15 is clear, a repetition only shifts. -/
theorem crc16Shift_of_lt {c : BitVec 16} (h : c.toNat < 2 ^ 15) : crc16Shift c = c <<< 1 := by
  have hmsb : c.getLsbD 15 = false := Nat.testBit_lt_two_pow h
  rw [crc16Shift, hmsb, if_neg (by decide)]

/-- A value of `16 - n` bits goes through `n` repetitions by shifts alone. -/
theorem crc16_shifts {c : BitVec 16} : ∀ {n : Nat}, n ≤ 16 → c.toNat < 2 ^ (16 - n) →
    (List.range n).foldl (fun c _ => crc16Shift c) c = c <<< n
  | 0, _, _ => by simp
  | n + 1, hn, h => by
    have hfirst : (List.range n).foldl (fun c _ => crc16Shift c) c = c <<< n :=
      crc16_shifts (by omega) (h.trans (Nat.pow_lt_pow_right (by decide) (by omega)))
    have hshifted : (c <<< n).toNat < 2 ^ 15 := by
      rw [BitVec.toNat_shiftLeft, Nat.shiftLeft_eq]
      calc c.toNat * 2 ^ n % 2 ^ 16 ≤ c.toNat * 2 ^ n := Nat.mod_le ..
        _ < 2 ^ (16 - (n + 1)) * 2 ^ n := Nat.mul_lt_mul_of_pos_right h (by positivity)
        _ = 2 ^ 15 := by rw [← Nat.pow_add]; congr 1; omega
    rw [List.range_succ, List.foldl_append, hfirst, List.foldl_cons, List.foldl_nil, crc16Shift_of_lt hshifted,
      BitVec.shiftLeft_add]

/-- A byte that leaves only the low byte of the running CRC moves that byte up. -/
theorem crc16Byte_of_lt {c : BitVec 16} {b : Byte} (h : (c ^^^ (b.setWidth 16 <<< 8)).toNat < 2 ^ 8) :
    crc16Byte c b = (c ^^^ (b.setWidth 16 <<< 8)) <<< 8 :=
  crc16_shifts (by decide) h

/-- Exclusive-or with its own high byte leaves the low byte of a running CRC. -/
theorem xor_highByte (c : BitVec 16) :
    c ^^^ ((c.extractLsb' 8 8).setWidth 16 <<< 8) = (c.extractLsb' 0 8).setWidth 16 := by
  apply BitVec.eq_of_getLsbD_eq
  intro i hi
  simp only [BitVec.getLsbD_xor, BitVec.getLsbD_shiftLeft, BitVec.getLsbD_setWidth, BitVec.getLsbD_extractLsb']
  interval_cases i <;> simp

/-- Settles O7. The high CRC byte cancels the high byte of the running CRC and moves the low one up; the low CRC byte
cancels that. -/
theorem crc16OfDataAndCrc : Obligations.Crc16OfDataAndCrc := by
  intro data
  generalize hc : crc16 data = c
  have hhigh : crc16Byte c (c.extractLsb' 8 8) = (c.extractLsb' 0 8).setWidth 16 <<< 8 := by
    rw [crc16Byte_of_lt] <;> rw [xor_highByte]
    rw [BitVec.toNat_setWidth]
    exact (Nat.mod_le ..).trans_lt (c.extractLsb' 0 8).isLt
  have hlow (b : Byte) : crc16Byte (b.setWidth 16 <<< 8) b = 0#16 := by
    rw [crc16Byte_of_lt] <;> simp
  calc crc16 (data ++ [c.extractLsb' 8 8, c.extractLsb' 0 8])
      = crc16Byte (crc16Byte (crc16 data) (c.extractLsb' 8 8)) (c.extractLsb' 0 8) := by
        rw [crc16, List.foldl_append]; rfl
    _ = 0#16 := by rw [hc, hhigh, hlow]

end Sys2Proof.Machine
end

section
/-! SUPPORT. The invariant. `Running` is its part that does not depend on the position; each way a piece of the sequencer
enters a position has one lemma that gives the invariant there. -/

namespace Sys2Proof.Machine

/-! ## The engine's step where the frame register agrees -/

/-- With the frame register as 30 R61 says, the engine's step is the sequencer's. -/
theorem engineStep_of_frameAgrees {s : State} (h : frameAgrees s = true) : engineStep s = .next s.sequencerStep := by
  refine (engineStep_cases s).resolve_right ?_
  rintro ⟨c, -, hf, -⟩
  rw [h] at hf
  cases hf

/-- Settles O13. -/
theorem rowsAgreeWithSequencer : Obligations.RowsAgreeWithSequencer := by
  intro s hm hf
  rw [step_engine hm]
  exact engineStep_of_frameAgrees hf

/-! ## Counts and limits -/

@[simp] theorem belowLimit_zero (l : Nat) : belowLimit l 0 = true := by
  cases l <;> simp [belowLimit]

/-- A count that may go on and has not reached its limit by one more may go on. -/
theorem belowLimit_succ {l n : Nat} (h : belowLimit l n = true) (hn : limitReached l (n + 1) = false) :
    belowLimit l (n + 1) = true := by
  simp only [belowLimit, limitReached, Bool.or_eq_true, beq_iff_eq, decide_eq_true_eq, Bool.and_eq_false_iff,
    bne_eq_false_iff_eq, beq_eq_false_iff_ne] at *
  omega

/-! ## The bytes of a block and their CRC16 -/

/-- One more byte in the running CRC. -/
theorem crc16_append_byte (l : List Byte) (b : Byte) : crc16 (l ++ [b]) = crc16Byte (crc16 l) b := by
  simp [crc16, List.foldl_append]

/-- BUF read from 0 on, one cell further. -/
theorem map_bufByte_succ (s : State) (n : Nat) :
    (List.range (n + 1)).map s.bufByte = (List.range n).map s.bufByte ++ [s.bufByte n] := by
  rw [List.range_succ, List.map_append, List.map_singleton]

/-- The bytes a block has stored, after one more is stored. -/
theorem received_storeByte {s : State} {b : BlockIn} (h : s.byteCnt < b.size) (r : Byte) :
    received (s.storeByte b r) b (s.byteCnt + 1) = received s b s.byteCnt ++ [r] := by
  have hbuf (h : s.byteCnt < Config.blockSize) :
      (List.range (s.byteCnt + 1)).map (s.setBuf s.byteCnt r).bufByte =
        (List.range s.byteCnt).map s.bufByte ++ [r] := by
    rw [map_bufByte_succ, State.bufByte_setBuf s h, if_pos rfl]
    congr 1
    refine List.map_congr_left fun a ha => ?_
    rw [State.bufByte_setBuf s h, if_neg (Nat.ne_of_lt (List.mem_range.mp ha))]
  cases b with
  | csd =>
    have hlen : s.byteCnt < s.csd.toList.length := by simpa [BlockIn.size] using h
    simp only [received, State.storeByte, setCsd, Vector.toList_setIfInBounds]
    rw [List.take_succ_eq_append_getElem (by simpa using hlen), List.take_set_of_le (Nat.le_refl _)]
    simp
  | single => exact hbuf h
  | stream => exact hbuf h

/-! ## What holds wherever an operation stands -/

/-- The part of the invariant that is the same at every position of a running operation: `op` runs, with the card
selected or not. -/
structure Running (s : State) (op : Op) (selected : Bool) : Prop where
  busy : s.busy = true
  notDone : s.done = false
  opl : s.opl = op.code
  argl : s.argl = s.arg
  cs : s.cs = selected
  csLine : csLineAgrees s = true
  byteCnt : s.byteCnt ≤ 513
  result : resultLegal s
  buf : Memory.wf s.buf = true

/-- A change of other fields, of BYTE_CNT within its range and of BUF within its canonical form keeps `Running`. -/
theorem Running.of_fields {s t : State} {op : Op} {selected : Bool} (h : Running s op selected)
    (he : t.busy = s.busy ∧ t.done = s.done ∧ t.opl = s.opl ∧ t.argl = s.argl ∧ t.arg = s.arg ∧ t.cs = s.cs ∧
      t.csLine = s.csLine ∧ t.result = s.result)
    (hcnt : t.byteCnt ≤ 513) (hbuf : Memory.wf t.buf = true) : Running t op selected := by
  obtain ⟨hbusy, hdone, hopl, hargl, harg, hcs, hline, hresult⟩ := he
  constructor
  case csLine => simpa only [csLineAgrees, hcs, hline] using h.csLine
  case result => simpa only [resultLegal, hresult] using h.result
  case byteCnt => exact hcnt
  case buf => exact hbuf
  all_goals simp only [hbusy, hdone, hopl, hargl, harg, hcs, h.busy, h.notDone, h.opl, h.argl, h.cs]

/-- The invariant at a position of a running operation. -/
theorem Running.invariant {s : State} {op : Op} (h : Running s op s.phase.selected) (hop : s.phase.op = some op)
    (hsel : s.phase ≠ .select .unselect) (frame : frameAgrees s = true) (curCmd : curCmdAgrees s = true)
    (byteCnt : byteCntAgrees s = true) (counts : countsBelowLimits s = true) (crc : crcAgrees s) : Invariant s where
  busyAgrees := by rw [h.busy]; cases hp : s.phase <;> simp_all [Phase.op]
  notDoneWhileBusy := fun _ => h.notDone
  opl := by
    have := h.opl
    cases hp : s.phase <;> simp_all [Phase.op, oplAgrees]
  argl := fun _ => h.argl
  cs := h.cs
  csLine := h.csLine
  frame := frame
  curCmd := curCmd
  byteCnt := byteCnt
  counts := counts
  crc := crc
  result := h.result
  buf := h.buf

/-- Where the invariant holds and an operation stands, it is `Running`. -/
theorem Invariant.running {s : State} {p : Phase} {op : Op} (h : Invariant s) (hp : s.phase = p)
    (hop : p.op = some op) : Running s op p.selected := by
  subst hp
  have hbusy : s.busy = true := by rw [h.busyAgrees]; cases hp : s.phase <;> simp_all [Phase.op]
  refine ⟨hbusy, h.notDoneWhileBusy hbusy, ?_, h.argl hbusy, h.cs, h.csLine, ?_, h.result, h.buf⟩
  · have := h.opl
    cases hp : s.phase <;> simp_all [Phase.op, oplAgrees]
  · have := h.byteCnt
    simp only [byteCntAgrees, Bool.and_eq_true, decide_eq_true_eq] at this
    exact this.1

/-- An exchange that has not returned keeps the invariant. -/
theorem Invariant.takeReply {s : State} (h : Invariant s) : Invariant s.takeReply := { h with }

/-- The exchange itself keeps the invariant, before the position handles its byte. -/
theorem Invariant.exchanged {s : State} (h : Invariant s) (t r : Byte) : Invariant (s.exchanged t r) := { h with }

/-! ## Entering a position -/

/-- The positions at which the invariant ties no command, counter or running CRC. -/
def Phase.untied : Phase → Bool
  | .initDeselect | .initDummy _ | .select _ | .blockOutToken _ | .dataResponse _ | .stopToken | .stopDiscard
  | .deselect _ | .complete _ | .failDeselect _ | .failComplete _ => true
  | .idle | .cmdWait _ | .cmdFrame _ _ | .cmdStuff | .cmdPollR1 _ | .payload _ | .tokenWait _ | .blockIn _
  | .blockInCrcHi _ | .blockInCrcLo _ | .blockOut _ | .blockOutCrcHi _ | .blockOutCrcLo _ | .programWait _ | .illegal =>
    false

/-- What a command of INIT's S7 loop needs to be entered: rounds are left (42 R135). -/
abbrev roundsLeft (s : State) (c : Cmd) : Prop := c.label = 7 → belowLimit s.params.acmd41Limit s.roundCnt = true

section
variable {s : State} {op : Op}

theorem Running.csAssert {selected : Bool} (h : Running s op selected) : Running s.csAssert op true :=
  { h with cs := rfl, csLine := rfl }

theorem Running.csDeassert {selected : Bool} (h : Running s op selected) : Running s.csDeassert op false :=
  { h with cs := rfl, csLine := rfl }

theorem Running.goto {p : Phase} (h : Running s op p.selected) (hop : p.op = some op) (hp : p.untied = true)
    (hsel : p ≠ .select .unselect) (hframe : s.txFrame = 0#48) : Invariant (s.goto p) := by
  have hr : Running (s.goto p) op p.selected := { h with }
  refine hr.invariant hop hsel ?frame ?curCmd ?byteCnt ?counts ?crc
  case crc => cases p <;> cases hp <;> exact fun _ => trivial
  all_goals cases p <;> cases hp <;>
    simp [frameAgrees, curCmdAgrees, byteCntAgrees, countsBelowLimits, hframe, h.byteCnt]

theorem Running.raise {f : Raised} (h : Running s f.op true) (hframe : s.txFrame = 0#48) : Invariant (s.raise f) :=
  Running.goto (p := .failDeselect f) h rfl rfl (by simp) hframe

theorem Running.deselect (h : Running s op true) (hop : op ≠ .unselect) (hframe : s.txFrame = 0#48) :
    Invariant (s.goto (.deselect op)) :=
  have hsel : (Phase.deselect op).selected = true := by simpa [Phase.selected] using hop
  Running.goto (p := .deselect op) (hsel ▸ h) rfl rfl (by simp) hframe

theorem Running.startFrame {c : Cmd} (h : Running s c.op true) (hcmd : s.curCmd = c.index) (hr : roundsLeft s c) :
    Invariant (s.startFrame c) := by
  have hr' : Running (s.startFrame c) c.op true := { h with }
  refine hr'.invariant rfl (by simp) ?_ ?_ ?_ ?_ (fun _ => trivial)
  · simp [frameAgrees]
  · simp [curCmdAgrees, hcmd]
  · simp [byteCntAgrees, h.byteCnt]
  · simpa [countsBelowLimits, or_iff_not_imp_left] using hr

theorem Running.startCommand {c : Cmd} (h : Running s c.op true) (hframe : s.txFrame = 0#48) (hr : roundsLeft s c) :
    Invariant (s.startCommand c) := by
  have hs : Running { s with curCmd := c.index } c.op true := { h with }
  unfold State.startCommand
  split
  · exact hs.startFrame rfl hr
  · have hw : Running (State.startPoll { s with curCmd := c.index } (.cmdWait c)) c.op true := { h with }
    refine hw.invariant rfl (by simp) ?_ ?_ ?_ ?_ (fun _ => trivial)
    · simp [frameAgrees, hframe]
    · simp [curCmdAgrees]
    · simp [byteCntAgrees, h.byteCnt]
    · simpa [countsBelowLimits, or_iff_not_imp_left] using hr

theorem Running.pollR1 {c : Cmd} (h : Running s c.op true) (hframe : s.txFrame = 0#48) (hcmd : s.curCmd = c.index)
    (hr : roundsLeft s c) : Invariant (s.startPoll (.cmdPollR1 c)) := by
  have hp : Running (s.startPoll (.cmdPollR1 c)) c.op true := { h with }
  refine hp.invariant rfl (by simp) ?_ ?_ ?_ ?_ (fun _ => trivial)
  · simp [frameAgrees, hframe]
  · simp [curCmdAgrees, hcmd]
  · simp [byteCntAgrees, h.byteCnt]
  · simpa [countsBelowLimits, or_iff_not_imp_left] using hr

theorem Running.tokenWait {b : BlockIn} (h : Running s b.op true) (hframe : s.txFrame = 0#48) :
    Invariant (s.startPoll (.tokenWait b)) := by
  have hp : Running (s.startPoll (.tokenWait b)) b.op true := { h with }
  refine hp.invariant rfl (by simp) ?_ ?_ ?_ ?_ (fun _ => trivial) <;>
    simp [frameAgrees, curCmdAgrees, byteCntAgrees, countsBelowLimits, hframe, h.byteCnt]

theorem Running.programWait {w : ProgramWait} (h : Running s w.op true) (hframe : s.txFrame = 0#48) :
    Invariant (s.startPoll (.programWait w)) := by
  have hp : Running (s.startPoll (.programWait w)) w.op true := { h with }
  refine hp.invariant rfl (by simp) ?_ ?_ ?_ ?_ (fun _ => trivial) <;>
    simp [frameAgrees, curCmdAgrees, byteCntAgrees, countsBelowLimits, hframe, h.byteCnt]

theorem Running.payload {p : Payload} (h : Running s .init true) (hframe : s.txFrame = 0#48) :
    Invariant (s.startBytes (.payload p)) := by
  have hp : Running (s.startBytes (.payload p)) .init true := { h with byteCnt := Nat.zero_le _ }
  refine hp.invariant rfl (by simp) ?_ ?_ ?_ ?_ (fun _ => trivial) <;>
    simp [frameAgrees, curCmdAgrees, byteCntAgrees, countsBelowLimits, hframe]

theorem Running.blockIn {b : BlockIn} (h : Running s b.op true) (hframe : s.txFrame = 0#48) :
    Invariant (s.startBlock (.blockIn b)) := by
  have hp : Running (s.startBlock (.blockIn b)) b.op true := { h with byteCnt := Nat.zero_le _ }
  refine hp.invariant rfl (by simp) ?_ ?_ ?_ ?_ ?_
  case refine_5 => intro he; cases b <;> simp_all [received, crc16]
  all_goals cases b <;> simp [frameAgrees, curCmdAgrees, byteCntAgrees, countsBelowLimits, hframe, BlockIn.size]

theorem Running.blockOut {b : BlockOut} (h : Running s b.op true) (hframe : s.txFrame = 0#48) :
    Invariant (s.startBlock (.blockOut b)) := by
  have hp : Running (s.startBlock (.blockOut b)) b.op true := { h with byteCnt := Nat.zero_le _ }
  refine hp.invariant rfl (by simp) ?_ ?_ ?_ ?_ ?_
  case refine_5 => intro he; simp_all [crc16]
  all_goals simp [frameAgrees, curCmdAgrees, byteCntAgrees, countsBelowLimits, hframe]

end

/-! ## Leaving a position -/

section
variable {s : State}

/-- Where the invariant holds, the facts about the position the engine stands at, by name. -/
theorem Invariant.frame_zero (h : Invariant s) (hp : ∀ c i, s.phase ≠ .cmdFrame c i) : s.txFrame = 0#48 := by
  have := h.frame
  unfold frameAgrees at this
  split at this
  · rename_i c i hc; exact absurd hc (hp c i)
  · simpa using this

/-- A poll of wait-not-busy that ends enters the next position; any other stays or fails. -/
theorem Running.afterBusyPoll {op : Op} {label : Nat} {ready : State → State} (r : Byte) (hr : Running s op true)
    (hframe : s.txFrame = 0#48)
    (hready : Invariant (ready { s with pollCnt := s.pollCnt + 1 }))
    (hstay : limitReached s.params.notBusyLimit (s.pollCnt + 1) = false →
      Invariant { s with pollCnt := s.pollCnt + 1 }) : Invariant (s.afterBusyPoll r ready op label) := by
  rcases s.afterBusyPoll_cases r ready op label with ⟨-, e⟩ | ⟨-, -, e⟩ | ⟨-, hl, e⟩ <;> rw [e]
  · exact hready
  · exact Running.raise (s := { s with pollCnt := s.pollCnt + 1 }) (f := ⟨.timeoutNotBusy, op, label⟩)
      { hr with } hframe
  · exact hstay hl

/-- Staying in a poll with one exchange more. -/
theorem Invariant.pollAgain (h : Invariant s) (hcounts : countsBelowLimits { s with pollCnt := s.pollCnt + 1 } = true) :
    Invariant { s with pollCnt := s.pollCnt + 1 } :=
  { h with counts := hcounts }

theorem Invariant.afterDummy {n : Nat} (h : Invariant s) (hp : s.phase = .initDummy n) : Invariant (s.afterDummy n) := by
  have hframe := h.frame_zero (by simp [hp])
  have hr : Running s .init false := h.running hp rfl
  unfold State.afterDummy
  split
  · exact hr.goto (p := .initDummy (n + 1)) rfl rfl (by simp) hframe
  · exact hr.goto (p := .select .init) rfl rfl (by simp) hframe

theorem Invariant.afterCmdWait {c : Cmd} (r : Byte) (h : Invariant s) (hp : s.phase = .cmdWait c) :
    Invariant (s.afterBusyPoll r (fun s => s.startFrame c) c.op c.label) := by
  have hframe := h.frame_zero (by simp [hp])
  have hr : Running s c.op true := h.running hp rfl
  have hcmd : s.curCmd = c.index := by simpa [curCmdAgrees, hp] using h.curCmd
  have hcounts := h.counts
  simp only [countsBelowLimits, hp, Bool.and_eq_true] at hcounts
  have hrounds : roundsLeft s c := by simpa [or_iff_not_imp_left] using hcounts.2
  refine hr.afterBusyPoll r hframe ?_ fun hl => h.pollAgain ?_
  · exact Running.startFrame (s := { s with pollCnt := s.pollCnt + 1 }) { hr with } hcmd hrounds
  · simp only [countsBelowLimits, hp, Bool.and_eq_true]
    exact ⟨belowLimit_succ hcounts.1 hl, hcounts.2⟩

theorem Invariant.afterProgramWait {w : ProgramWait} (r : Byte) (h : Invariant s) (hp : s.phase = .programWait w) :
    Invariant (s.afterBusyPoll r (fun s => s.goto (.deselect w.op)) w.op w.label) := by
  have hframe := h.frame_zero (by simp [hp])
  have hr : Running s w.op true := h.running hp rfl
  have hcounts := h.counts
  simp only [countsBelowLimits, hp] at hcounts
  refine hr.afterBusyPoll r hframe ?_ fun hl => h.pollAgain ?_
  · exact Running.deselect (s := { s with pollCnt := s.pollCnt + 1 }) { hr with } (by cases w <;> simp [ProgramWait.op])
      hframe
  · simpa only [countsBelowLimits, hp] using belowLimit_succ hcounts hl

theorem Invariant.afterFrameByte {c : Cmd} {i : Fin 6} (h : Invariant s) (hp : s.phase = .cmdFrame c i) :
    Invariant (s.afterFrameByte c i) := by
  have hr : Running s c.op true := h.running hp rfl
  have hcmd : s.curCmd = c.index := by simpa [curCmdAgrees, hp] using h.curCmd
  have hrounds : roundsLeft s c := by
    have := h.counts
    simp only [countsBelowLimits, hp] at this
    simpa [or_iff_not_imp_left] using this
  have hrelease : Running { s with txFrame := 0#48 } c.op true := { hr with }
  unfold State.afterFrameByte
  split
  case isTrue hi =>
    have hg : Running (s.goto (.cmdFrame c ⟨i.val + 1, hi⟩)) c.op true := { hr with }
    refine hg.invariant rfl (by simp) ?_ ?_ ?_ ?_ (fun _ => trivial)
    · simpa [frameAgrees] using frame_of_agrees h.frame hp
    · simp [curCmdAgrees, hcmd]
    · simp [byteCntAgrees, hr.byteCnt]
    · simpa [countsBelowLimits, or_iff_not_imp_left] using hrounds
  case isFalse =>
    split
    case isTrue h12 =>
      subst h12
      have hg : Running (State.goto { s with txFrame := 0#48 } .cmdStuff) .readEnd true := { hr with }
      refine hg.invariant rfl (by simp) ?_ ?_ ?_ ?_ (fun _ => trivial) <;>
        simp_all [frameAgrees, curCmdAgrees, byteCntAgrees, countsBelowLimits, hr.byteCnt, Cmd.index]
    case isFalse => exact hrelease.pollR1 rfl hcmd hrounds

theorem Invariant.afterStuff (h : Invariant s) (hp : s.phase = .cmdStuff) :
    Invariant (s.startPoll (.cmdPollR1 .cmd12)) := by
  have hr : Running s Cmd.cmd12.op true := h.running hp rfl
  have hcmd : s.curCmd = 12#6 := by simpa [curCmdAgrees, hp] using h.curCmd
  exact hr.pollR1 (h.frame_zero (by simp [hp])) hcmd (by simp [roundsLeft, Cmd.label])

/-- What follows a command, from a state that runs its operation. -/
theorem Running.afterCommand {c : Cmd} (h : Running s c.op true) (hframe : s.txFrame = 0#48) (hr : roundsLeft s c) :
    Invariant (s.afterCommand c) := by
  cases c
  case cmd0 => exact h.startCommand (c := .cmd8) hframe (by simp [roundsLeft, Cmd.label])
  case cmd55 => exact h.startCommand (c := .acmd41) hframe hr
  case acmd41 => exact h.startCommand (c := .cmd58) hframe (by simp [roundsLeft, Cmd.label])
  case cmd8 => exact h.payload hframe
  case cmd58 => exact h.payload hframe
  case cmd9 => exact h.tokenWait hframe
  case cmd17 => exact h.tokenWait hframe
  case cmd24 => exact h.goto (p := .blockOutToken .single) rfl rfl (by simp) hframe
  all_goals exact h.deselect (by simp [Cmd.op]) hframe

/-- ACMD41's check: the round is counted, and another begins only if one is left. -/
theorem Running.afterAcmd41 (r : Byte) (h : Running s .init true) (hframe : s.txFrame = 0#48)
    (hr : roundsLeft s .acmd41) : Invariant (s.afterAcmd41 r) := by
  have hc : Running { s with roundCnt := s.roundCnt + 1 } .init true := { h with }
  unfold State.afterAcmd41
  dsimp only
  split
  · exact hc.startCommand (c := .cmd58) hframe (by simp [roundsLeft, Cmd.label])
  split
  · exact hc.raise hframe
  split
  · exact hc.raise hframe
  case isFalse hl =>
    exact hc.startCommand (c := .cmd55) hframe fun _ => belowLimit_succ (hr rfl) (by simpa using hl)

theorem Running.checkR1 {c : Cmd} (r : Byte) (h : Running s c.op true) (hframe : s.txFrame = 0#48)
    (hr : roundsLeft s c) : Invariant (s.checkR1 c r) := by
  unfold State.checkR1
  split
  · subst c; exact h.afterAcmd41 r hframe hr
  split
  · exact h.afterCommand hframe hr
  · exact h.raise (f := ⟨c.failure, c.op, c.label⟩) hframe

theorem Invariant.afterR1Poll {c : Cmd} (r : Byte) (h : Invariant s) (hp : s.phase = .cmdPollR1 c) :
    Invariant (s.afterR1Poll c r) := by
  have hframe := h.frame_zero (by simp [hp])
  have hr : Running s c.op true := h.running hp rfl
  have hcounts := h.counts
  simp only [countsBelowLimits, hp, Bool.and_eq_true] at hcounts
  have hrounds : roundsLeft s c := by simpa [or_iff_not_imp_left] using hcounts.2
  unfold State.afterR1Poll
  dsimp only
  split
  · exact Running.checkR1 (s := { s with pollCnt := s.pollCnt + 1, r1 := r }) r { hr with } hframe hrounds
  split
  · exact Running.raise (s := { s with pollCnt := s.pollCnt + 1 }) (f := ⟨.timeoutR1, c.op, c.label⟩) { hr with } hframe
  case isFalse hl =>
    refine h.pollAgain ?_
    simp only [countsBelowLimits, hp, Bool.and_eq_true]
    exact ⟨belowLimit_succ hcounts.1 (by simpa using hl), hcounts.2⟩

theorem Running.checkPayload {p : Payload} (h : Running s .init true) (hframe : s.txFrame = 0#48) :
    Invariant (s.checkPayload p) := by
  cases p <;> unfold State.checkPayload <;> dsimp only <;> split
  · exact Running.startCommand (s := { s with roundCnt := 0 }) (c := .cmd55) { h with } hframe
      fun _ => belowLimit_zero _
  · exact h.raise hframe
  · exact h.deselect (by simp) hframe
  · exact h.raise hframe

theorem Invariant.afterPayloadByte {p : Payload} (r : Byte) (h : Invariant s) (hp : s.phase = .payload p) :
    Invariant (s.afterPayloadByte p r) := by
  have hframe := h.frame_zero (by simp [hp])
  have hr : Running s .init true := h.running hp rfl
  have hcnt : s.byteCnt < 4 := by
    have := h.byteCnt
    simp only [byteCntAgrees, hp, Bool.and_eq_true, decide_eq_true_eq] at this
    exact this.2
  have hstored : Running { s with resp := setResp s.resp s.byteCnt r, byteCnt := s.byteCnt + 1 } .init true :=
    { hr with byteCnt := by dsimp only; omega }
  unfold State.afterPayloadByte
  dsimp only
  split
  case isTrue hlt =>
    refine Running.invariant (op := .init) (hp ▸ hstored) (by simp [hp, Phase.op]) (by simp [hp]) ?_ ?_ ?_ ?_
      (fun _ => by simp [hp]) <;>
      simp [frameAgrees, curCmdAgrees, byteCntAgrees, countsBelowLimits, hp, hframe]
    omega
  case isFalse => exact hstored.checkPayload hframe

theorem Invariant.afterTokenPoll {b : BlockIn} (r : Byte) (h : Invariant s) (hp : s.phase = .tokenWait b) :
    Invariant (s.afterTokenPoll b r) := by
  have hframe := h.frame_zero (by simp [hp])
  have hr : Running s b.op true := h.running hp rfl
  have hcounts := h.counts
  simp only [countsBelowLimits, hp] at hcounts
  unfold State.afterTokenPoll
  dsimp only
  split
  · split
    · exact Running.raise (s := { s with pollCnt := s.pollCnt + 1 }) (f := ⟨.timeoutToken, b.op, b.label⟩) { hr with }
        hframe
    case isFalse hl =>
      refine h.pollAgain ?_
      simpa only [countsBelowLimits, hp] using belowLimit_succ hcounts (by simpa using hl)
  split
  · exact Running.blockIn (s := { s with pollCnt := s.pollCnt + 1, token := r }) { hr with } hframe
  · exact Running.raise (s := { s with pollCnt := s.pollCnt + 1, token := r }) (f := ⟨b.tokenFailure, b.op, b.label⟩)
      { hr with } hframe

/-- Storing a data byte keeps the canonical form of BUF. -/
theorem State.storeByte_wf (h : Memory.wf s.buf = true) (b : BlockIn) (r : Byte) :
    Memory.wf (s.storeByte b r).buf = true := by
  cases b
  case csd => exact h
  all_goals exact State.setBuf_wf h _ _

/-- Where the invariant holds, BYTE_CNT points into the block that comes in. -/
theorem Invariant.byteCnt_lt {b : BlockIn} (h : Invariant s) (hp : s.phase = .blockIn b) : s.byteCnt < b.size := by
  have := h.byteCnt
  simp only [byteCntAgrees, hp, Bool.and_eq_true, decide_eq_true_eq] at this
  exact this.2

theorem BlockIn.size_le (b : BlockIn) : b.size ≤ 512 := by cases b <;> decide

/-- One data byte has come in: stored, taken into the running CRC, counted (40 R101). -/
def State.stored (s : State) (b : BlockIn) (r : Byte) : State :=
  { (s.storeByte b r).accumulate r with byteCnt := s.byteCnt + 1 }

/-- One data byte has gone out: taken into the running CRC, counted (40 R103). -/
def State.dataSent (s : State) : State := { s.accumulate (s.bufByte s.byteCnt) with byteCnt := s.byteCnt + 1 }

theorem State.afterDataIn_eq (s : State) (b : BlockIn) (r : Byte) :
    s.afterDataIn b r =
      if s.byteCnt + 1 < b.size then s.stored b r else (s.stored b r).goto (.blockInCrcHi b) := by
  simp [State.afterDataIn, State.stored]

theorem State.afterDataOut_eq (s : State) (b : BlockOut) :
    s.afterDataOut b = if s.byteCnt + 1 < Config.blockSize then s.dataSent else s.dataSent.goto (.blockOutCrcHi b) := by
  simp [State.afterDataOut, State.dataSent]

@[simp] theorem State.stored_phase (s : State) (b : BlockIn) (r : Byte) : (s.stored b r).phase = s.phase := by
  simp [State.stored]

@[simp] theorem State.stored_byteCnt (s : State) (b : BlockIn) (r : Byte) :
    (s.stored b r).byteCnt = s.byteCnt + 1 := rfl

@[simp] theorem State.stored_txFrame (s : State) (b : BlockIn) (r : Byte) : (s.stored b r).txFrame = s.txFrame := by
  simp [State.stored]

@[simp] theorem State.dataSent_phase (s : State) : s.dataSent.phase = s.phase := by simp [State.dataSent]

@[simp] theorem State.dataSent_byteCnt (s : State) : s.dataSent.byteCnt = s.byteCnt + 1 := rfl

@[simp] theorem State.dataSent_txFrame (s : State) : s.dataSent.txFrame = s.txFrame := by simp [State.dataSent]

/-- The bytes of a block are read from BUF and CSD alone. -/
theorem received_congr {s t : State} (hbuf : t.buf = s.buf) (hdraw : t.bufDraw = s.bufDraw) (hcsd : t.csd = s.csd)
    (b : BlockIn) (n : Nat) : received t b n = received s b n := by
  have : t.bufByte = s.bufByte := by funext i; simp only [State.bufByte, hbuf, hdraw]
  simp only [received, hcsd, this]

/-- A byte taken in keeps CRC16_ACC the CRC16 of what has been stored. -/
theorem State.stored_crc {s : State} {b : BlockIn} (hcnt : s.byteCnt < b.size) (r : Byte)
    (he : s.params.dataCrcEnable = true) (h : s.crc16Acc = crc16 (Machine.received s b s.byteCnt)) :
    (s.stored b r).crc16Acc = crc16 (Machine.received (s.stored b r) b (s.byteCnt + 1)) := by
  have hsame : Machine.received (s.stored b r) b (s.byteCnt + 1) = Machine.received (s.storeByte b r) b (s.byteCnt + 1) :=
    received_congr (by simp [State.stored]) (by simp [State.stored]) (by simp [State.stored]) b _
  have hacc : (s.stored b r).crc16Acc = crc16Byte s.crc16Acc r := by simp [State.stored, he]
  rw [hsame, received_storeByte hcnt, crc16_append_byte, hacc, h]

/-- A byte sent keeps CRC16_ACC the CRC16 of the cells that have gone out. -/
theorem State.dataSent_crc {s : State} (he : s.params.dataCrcEnable = true)
    (h : s.crc16Acc = crc16 ((List.range s.byteCnt).map s.bufByte)) :
    s.dataSent.crc16Acc = crc16 ((List.range (s.byteCnt + 1)).map s.dataSent.bufByte) := by
  have hsame : s.dataSent.bufByte = s.bufByte := by funext i; simp [State.bufByte, State.dataSent]
  have hacc : s.dataSent.crc16Acc = crc16Byte s.crc16Acc (s.bufByte s.byteCnt) := by simp [State.dataSent, he]
  rw [hsame, map_bufByte_succ, crc16_append_byte, hacc, h]

theorem Running.stored {op : Op} {sel : Bool} (h : Running s op sel) (hcnt : s.byteCnt < 513) (b : BlockIn) (r : Byte) :
    Running (s.stored b r) op sel :=
  h.of_fields (by simp [State.stored]) hcnt (by simpa [State.stored] using s.storeByte_wf h.buf b r)

theorem Running.dataSent {op : Op} {sel : Bool} (h : Running s op sel) (hcnt : s.byteCnt < 513) :
    Running s.dataSent op sel :=
  h.of_fields (by simp [State.dataSent]) hcnt (by simpa [State.dataSent] using h.buf)

theorem Invariant.afterDataIn {b : BlockIn} (r : Byte) (h : Invariant s) (hp : s.phase = .blockIn b) :
    Invariant (s.afterDataIn b r) := by
  have hframe := h.frame_zero (by simp [hp])
  have hcnt := h.byteCnt_lt hp
  have hsize := b.size_le
  have hr : Running (s.stored b r) b.op true := (h.running hp rfl).stored (by omega) b r
  have hcrc (he : s.params.dataCrcEnable = true) :
      (s.stored b r).crc16Acc = crc16 (received (s.stored b r) b (s.byteCnt + 1)) :=
    State.stored_crc hcnt r he (by simpa [hp] using h.crc he)
  have hparams : (s.stored b r).params = s.params := by simp [State.stored]
  rw [State.afterDataIn_eq]
  split
  case isTrue hlt =>
    refine Running.invariant (op := b.op) (by simpa [hp, Phase.selected] using hr) (by simp [hp, Phase.op]) (by simp [hp])
      ?_ ?_ ?_ ?_ fun he => ?_
    case refine_5 => simpa [hp] using hcrc (hparams ▸ he)
    all_goals simp [frameAgrees, curCmdAgrees, byteCntAgrees, countsBelowLimits, hp, hframe]
    exact ⟨by omega, decide_eq_true hlt⟩
  case isFalse hge =>
    have hlast : s.byteCnt + 1 = b.size := by omega
    have hg : Running ((s.stored b r).goto (.blockInCrcHi b)) b.op true := { hr with }
    refine hg.invariant rfl (by simp) ?_ ?_ ?_ ?_ fun he => ?_
    case refine_5 =>
      have := hcrc (hparams ▸ he)
      rw [hlast] at this
      exact this
    all_goals simp [frameAgrees, curCmdAgrees, byteCntAgrees, countsBelowLimits, hframe]
    omega

theorem Invariant.afterCrcHiIn {b : BlockIn} (r : Byte) (h : Invariant s) (hp : s.phase = .blockInCrcHi b) :
    Invariant (s.afterCrcHiIn b r) := by
  have hframe := h.frame_zero (by simp [hp])
  have hr : Running s b.op true := h.running hp rfl
  have hcnt : s.byteCnt = b.size := by
    have := h.byteCnt
    simp only [byteCntAgrees, hp, Bool.and_eq_true, beq_iff_eq] at this
    exact this.2
  have hsize := b.size_le
  have hg : Running (s.afterCrcHiIn b r) b.op true :=
    hr.of_fields (by simp) (by simp [State.afterCrcHiIn]; omega) (by simpa using hr.buf)
  refine hg.invariant rfl (by simp [State.afterCrcHiIn]) ?_ ?_ ?_ ?_ fun he => ?_
  case refine_5 =>
    have := h.crc he
    simp only [hp] at this
    exact this
  all_goals simp [State.afterCrcHiIn, frameAgrees, curCmdAgrees, byteCntAgrees, countsBelowLimits, hframe, hcnt]
  omega

theorem Running.blockReceived {b : BlockIn} (h : Running s b.op true) (hframe : s.txFrame = 0#48) :
    Invariant (s.blockReceived b) := by
  cases b <;> unfold State.blockReceived <;> dsimp only
  case csd =>
    split
    · exact Running.deselect (s := { s with blockCount := blockCountOf s.csd }) { h with } (by simp) hframe
    · exact h.raise (f := ⟨.csdVersion, .getBlocksNumber, 4⟩) hframe
  all_goals exact h.deselect (by simp [BlockIn.op]) hframe

theorem Invariant.afterCrcLoIn {b : BlockIn} (r : Byte) (h : Invariant s) (hp : s.phase = .blockInCrcLo b) :
    Invariant (s.afterCrcLoIn b r) := by
  have hframe := h.frame_zero (by simp [hp])
  have hr : Running { s with crcHi := 0#8 } b.op true := { h.running (op := b.op) hp rfl with }
  unfold State.afterCrcLoIn
  dsimp only
  split
  · exact hr.raise (f := ⟨b.crcFailure, b.op, b.label⟩) hframe
  · exact hr.blockReceived hframe

theorem Invariant.afterDataOut {b : BlockOut} (h : Invariant s) (hp : s.phase = .blockOut b) :
    Invariant (s.afterDataOut b) := by
  have hframe := h.frame_zero (by simp [hp])
  have hcnt : s.byteCnt < Config.blockSize := by
    have := h.byteCnt
    simp only [byteCntAgrees, hp, Bool.and_eq_true, decide_eq_true_eq] at this
    exact this.2
  have hsize : Config.blockSize = 512 := rfl
  have hr : Running s.dataSent b.op true := (h.running hp rfl).dataSent (by omega)
  have hparams : s.dataSent.params = s.params := by simp [State.dataSent]
  have hcrc (he : s.params.dataCrcEnable = true) :
      s.dataSent.crc16Acc = crc16 ((List.range (s.byteCnt + 1)).map s.dataSent.bufByte) :=
    State.dataSent_crc he (by simpa [hp] using h.crc he)
  rw [State.afterDataOut_eq]
  split
  case isTrue hlt =>
    refine Running.invariant (op := b.op) (by simpa [hp, Phase.selected] using hr) (by simp [hp, Phase.op]) (by simp [hp])
      ?_ ?_ ?_ ?_ fun he => ?_
    case refine_5 => simpa [hp] using hcrc (hparams ▸ he)
    all_goals simp [frameAgrees, curCmdAgrees, byteCntAgrees, countsBelowLimits, hp, hframe]
    exact ⟨by omega, decide_eq_true hlt⟩
  case isFalse hge =>
    have hlast : s.byteCnt + 1 = Config.blockSize := by omega
    have hg : Running (s.dataSent.goto (.blockOutCrcHi b)) b.op true := { hr with }
    refine hg.invariant rfl (by simp) ?_ ?_ ?_ ?_ fun he => ?_
    case refine_5 =>
      have := hcrc (hparams ▸ he)
      rw [hlast] at this
      exact this
    all_goals simp [frameAgrees, curCmdAgrees, byteCntAgrees, countsBelowLimits, hframe]
    omega

theorem Invariant.afterCrcHiOut {b : BlockOut} (h : Invariant s) (hp : s.phase = .blockOutCrcHi b) :
    Invariant (State.goto { s with byteCnt := s.byteCnt + 1 } (.blockOutCrcLo b)) := by
  have hframe := h.frame_zero (by simp [hp])
  have hr : Running s b.op true := h.running hp rfl
  have hcnt : s.byteCnt = 512 := by
    have := h.byteCnt
    simp only [byteCntAgrees, hp, Bool.and_eq_true, beq_iff_eq] at this
    exact this.2
  have hg : Running (State.goto { s with byteCnt := s.byteCnt + 1 } (.blockOutCrcLo b)) b.op true :=
    { hr with byteCnt := by simp [hcnt] }
  refine hg.invariant rfl (by simp) ?_ ?_ ?_ ?_ fun he => ?_
  case refine_5 =>
    have := h.crc he
    simp only [hp] at this
    exact this
  all_goals simp [frameAgrees, curCmdAgrees, byteCntAgrees, countsBelowLimits, hframe, hcnt]

theorem Invariant.afterDataResponse {b : BlockOut} (r : Byte) (h : Invariant s) (hp : s.phase = .dataResponse b) :
    Invariant (s.afterDataResponse b r) := by
  have hframe := h.frame_zero (by simp [hp])
  have hr : Running { s with dresp := r } b.op true := { h.running (op := b.op) hp rfl with }
  have hop : b.programWait.op = b.op := by cases b <;> rfl
  unfold State.afterDataResponse
  dsimp only
  split
  · exact Running.programWait (hop ▸ hr) hframe
  · exact hr.raise (f := ⟨b.failure, b.op, b.label + 1⟩) hframe

/-- What a position does with the byte it received keeps the invariant. -/
theorem Invariant.received (r : Byte) (h : Invariant s) : Invariant (State.received r s) := by
  cases hp : s.phase <;> simp only [State.received, hp]
  case initDummy => exact h.afterDummy hp
  case cmdWait => exact h.afterCmdWait r hp
  case cmdFrame => exact h.afterFrameByte hp
  case cmdStuff => exact h.afterStuff hp
  case cmdPollR1 => exact h.afterR1Poll r hp
  case payload => exact h.afterPayloadByte r hp
  case tokenWait => exact h.afterTokenPoll r hp
  case blockIn => exact h.afterDataIn r hp
  case blockInCrcHi => exact h.afterCrcHiIn r hp
  case blockInCrcLo => exact h.afterCrcLoIn r hp
  case blockOutToken b => exact (h.running (op := b.op) hp rfl).blockOut (h.frame_zero (by simp [hp]))
  case blockOut => exact h.afterDataOut hp
  case blockOutCrcHi => exact h.afterCrcHiOut hp
  case blockOutCrcLo b =>
    exact (h.running (op := b.op) hp rfl).goto (p := .dataResponse b) rfl rfl (by simp) (h.frame_zero (by simp [hp]))
  case dataResponse => exact h.afterDataResponse r hp
  case programWait => exact h.afterProgramWait r hp
  case stopToken =>
    exact (h.running (op := .writeEnd) hp rfl).goto (p := .stopDiscard) rfl rfl (by simp) (h.frame_zero (by simp [hp]))
  case stopDiscard =>
    exact (h.running (op := .writeEnd) hp rfl).programWait (w := .writeEnd) (h.frame_zero (by simp [hp]))
  all_goals exact h

/-! ## Calls and completions -/

theorem Running.afterInitDeselect (h : Running s .init false) (hframe : s.txFrame = 0#48) :
    Invariant s.afterInitDeselect := by
  unfold State.afterInitDeselect
  split
  · exact h.goto (p := .select .init) rfl rfl (by simp) hframe
  · exact h.goto (p := .initDummy 0) rfl rfl (by simp) hframe

theorem Running.afterSelect {op : Op} (h : Running s op true) (hop : op ≠ .unselect) (hframe : s.txFrame = 0#48) :
    Invariant (s.afterSelect op) := by
  cases op
  case init => exact h.startCommand (c := .cmd0) hframe (by simp [roundsLeft, Cmd.label])
  case getBlocksNumber => exact h.startCommand (c := .cmd9) hframe (by simp [roundsLeft, Cmd.label])
  case readSingleBlock => exact h.startCommand (c := .cmd17) hframe (by simp [roundsLeft, Cmd.label])
  case writeSingleBlock => exact h.startCommand (c := .cmd24) hframe (by simp [roundsLeft, Cmd.label])
  case readBegin => exact h.startCommand (c := .cmd18) hframe (by simp [roundsLeft, Cmd.label])
  case readData => exact h.tokenWait (b := .stream) hframe
  case readEnd => exact h.startCommand (c := .cmd12) hframe (by simp [roundsLeft, Cmd.label])
  case writeBegin => exact h.startCommand (c := .cmd25) hframe (by simp [roundsLeft, Cmd.label])
  case writeData => exact h.goto (p := .blockOutToken .stream) rfl rfl (by simp) hframe
  case writeEnd => exact h.goto (p := .stopToken) rfl rfl (by simp) hframe
  case unselect => exact absurd rfl hop

/-- A completion leaves the idle state of the invariant, whatever the code, if that is legal. -/
theorem Invariant.finish {code : Byte} (hcs : s.cs = false) (hline : csLineAgrees s = true) (hframe : s.txFrame = 0#48)
    (hcnt : s.byteCnt ≤ 513) (hbuf : Memory.wf s.buf = true) (hcode : code = 0#8 ∨ ∃ f : Failure, code = f.code) :
    Invariant (s.finish code) where
  busyAgrees := rfl
  notDoneWhileBusy := by simp
  opl := rfl
  argl := by simp
  cs := hcs
  csLine := hline
  frame := by simp [frameAgrees, hframe]
  curCmd := rfl
  byteCnt := by simp [byteCntAgrees, hcnt]
  counts := rfl
  crc := fun _ => trivial
  result := hcode
  buf := hbuf

theorem Running.succeed {op : Op} (h : Running s op false) (hframe : s.txFrame = 0#48) : Invariant (s.succeed op) := by
  cases op <;> exact Invariant.finish h.cs h.csLine hframe h.byteCnt h.buf (.inl rfl)

theorem Running.failF2 {f : Raised} (h : Running s f.op false) (hframe : s.txFrame = 0#48) : Invariant (s.failF2 f) := by
  refine Invariant.finish (by simpa using h.cs) ?_ (by simpa using hframe) (by simpa using h.byteCnt)
    (State.spoil_wf h.buf f) (.inr ⟨f.failure, rfl⟩)
  simpa [csLineAgrees] using h.csLine

/-- A call or completion step keeps the invariant. -/
theorem Invariant.callStep (h : Invariant s) : Invariant s.callStep := by
  cases hp : s.phase <;> simp only [State.callStep, hp]
  case initDeselect =>
    exact (h.running (op := .init) hp rfl).csDeassert.afterInitDeselect (h.frame_zero (by simp [hp]))
  case select op =>
    have hop : op ≠ .unselect := by
      have := h.opl
      simp only [oplAgrees, hp, Bool.and_eq_true, bne_iff_ne] at this
      exact this.1
    exact (h.running (op := op) hp rfl).csAssert.afterSelect hop (h.frame_zero (by simp [hp]))
  case deselect op =>
    exact (h.running (op := op) hp rfl).csDeassert.goto (p := .complete op) rfl rfl (by simp)
      (h.frame_zero (by simp [hp]))
  case complete op => exact (h.running (op := op) hp rfl).succeed (h.frame_zero (by simp [hp]))
  case illegal =>
    have hcnt := h.byteCnt
    simp only [byteCntAgrees, Bool.and_eq_true, decide_eq_true_eq] at hcnt
    exact Invariant.finish (by simpa [hp, Phase.selected] using h.cs) h.csLine (h.frame_zero (by simp [hp])) hcnt.1 h.buf
      (.inr ⟨.illegalOp, rfl⟩)
  case failDeselect f =>
    exact (h.running (op := f.op) hp rfl).csDeassert.goto (p := .failComplete f) rfl rfl (by simp)
      (h.frame_zero (by simp [hp]))
  case failComplete f => exact (h.running (op := f.op) hp rfl).failF2 (h.frame_zero (by simp [hp]))
  all_goals exact h

theorem Invariant.sequencerStep (h : Invariant s) : Invariant s.sequencerStep := by
  rcases s.sequencerStep_cases with ⟨_, _, _, e⟩ | ⟨t, r, _, _, e⟩ | ⟨_, e⟩ <;> rw [e]
  · exact h.takeReply
  · exact (h.exchanged t r).received r
  · exact h.callStep

/-! ## The host's accesses and reset -/

/-- The host's list of events is no part of the invariant. -/
theorem Invariant.hostIn (h : Invariant s) (l : List HostEvent) : Invariant { s with hostIn := l } := { h with }

theorem Invariant.hostRead (h : Invariant s) (n : Nat) : Invariant (s.hostRead n) := by
  unfold State.hostRead
  split <;> exact { h with }

/-- While idle BUF and ARG are the host's to write. -/
theorem Invariant.hostWrite (h : Invariant s) (n : Nat) (v : Word) : Invariant (s.hostWrite n v) := by
  unfold State.hostWrite
  split
  · exact h
  case isFalse hbusy =>
    have hidle : s.phase = .idle := by simpa [hbusy] using h.busyAgrees
    split
    · exact { h with argl := fun hb => absurd hb hbusy }
    case h_2 i _ =>
      unfold State.setBuf
      split
      · exact { h with buf := Memory.wf_write _ ‹_› h.buf, crc := fun _ => by simp [hidle] }
      · exact h
    all_goals exact h

theorem Op.firstPhase_selected (op : Op) : op.firstPhase.selected = false := by cases op <;> rfl

theorem Op.firstPhase_op (op : Op) : op.firstPhase.op = some op := by cases op <;> rfl

theorem Op.firstPhase_untied (op : Op) : op.firstPhase.untied = true := by cases op <;> rfl

theorem Op.firstPhase_ne (op : Op) : op.firstPhase ≠ .select .unselect := by cases op <;> decide

/-- Issuing an operation at an idle engine, or ignoring the write at a busy one. -/
theorem Invariant.issue {op : Op} (h : Invariant s) : Invariant (s.issue op.code op.firstPhase) := by
  cases hbusy : s.busy with
  | true => rw [State.issue_busy hbusy]; exact h
  | false =>
    rw [State.issue_idle hbusy]
    have hidle : s.phase = .idle := by simpa [hbusy] using h.busyAgrees
    have hcnt := h.byteCnt
    simp only [byteCntAgrees, Bool.and_eq_true, decide_eq_true_eq] at hcnt
    have hr : Running { s with opl := op.code, argl := s.arg, busy := true, done := false } op false :=
      ⟨rfl, rfl, rfl, rfl, by simpa [hidle, Phase.selected] using h.cs, h.csLine, hcnt.1, h.result, h.buf⟩
    have hframe := h.frame_zero (by simp [hidle])
    have hr' : Running { s with opl := op.code, argl := s.arg, busy := true, done := false } op op.firstPhase.selected :=
      op.firstPhase_selected.symm ▸ hr
    exact hr'.goto op.firstPhase_op op.firstPhase_untied op.firstPhase_ne hframe

/-- A reserved code goes to its only step. -/
theorem Invariant.issueReserved {code : BitVec 4} (hcode : reservedCode code = true) (h : Invariant s) :
    Invariant (s.issue code .illegal) := by
  cases hbusy : s.busy with
  | true => rw [State.issue_busy hbusy]; exact h
  | false =>
    rw [State.issue_idle hbusy]
    have hidle : s.phase = .idle := by simpa [hbusy] using h.busyAgrees
    have hcnt := h.byteCnt
    simp only [byteCntAgrees, Bool.and_eq_true, decide_eq_true_eq] at hcnt
    exact { h with
      busyAgrees := rfl
      notDoneWhileBusy := fun _ => rfl
      opl := hcode
      argl := fun _ => rfl
      cs := by simpa [hidle, Phase.selected] using h.cs
      frame := by simpa [frameAgrees] using h.frame_zero (by simp [hidle])
      curCmd := rfl
      byteCnt := by simpa [byteCntAgrees] using hcnt.1
      counts := rfl
      crc := fun _ => trivial }

/-- A host code's row issues its operation, or is reserved. -/
theorem exec_decodeOp_cases (code : BitVec 4) :
    (∃ op : Op, ∀ s, exec (decodeOp code) s = .next (s.issue op.code op.firstPhase)) ∨
    ∃ c, reservedCode c = true ∧ ∀ s, exec (decodeOp code) s = .next (s.issue c .illegal) := by
  unfold decodeOp
  split
  case h_1 => exact .inl ⟨.init, fun _ => rfl⟩
  case h_2 => exact .inl ⟨.getBlocksNumber, fun _ => rfl⟩
  case h_3 => exact .inl ⟨.readSingleBlock, fun _ => rfl⟩
  case h_4 => exact .inl ⟨.writeSingleBlock, fun _ => rfl⟩
  case h_5 => exact .inl ⟨.readBegin, fun _ => rfl⟩
  case h_6 => exact .inl ⟨.readData, fun _ => rfl⟩
  case h_7 => exact .inl ⟨.readEnd, fun _ => rfl⟩
  case h_8 => exact .inl ⟨.writeBegin, fun _ => rfl⟩
  case h_9 => exact .inl ⟨.writeData, fun _ => rfl⟩
  case h_10 => exact .inl ⟨.writeEnd, fun _ => rfl⟩
  case h_11 => exact .inl ⟨.unselect, fun _ => rfl⟩
  all_goals exact .inr ⟨_, by rfl, fun _ => rfl⟩

theorem Invariant.hostWriteStep {n : Nat} {v : Word} {t : State} (h : Invariant s) (ht : hostWriteStep n v s = .next t) :
    Invariant t := by
  by_cases h0 : n = 0
  · subst h0
    rw [hostWriteStep_ctrl] at ht
    rcases exec_decodeOp_cases (v.extractLsb' 0 4) with ⟨op, e⟩ | ⟨c, hc, e⟩ <;> rw [e] at ht <;> cases ht
    · exact h.issue
    · exact h.issueReserved hc
  · rw [hostWriteStep_other h0] at ht; cases ht; exact h.hostWrite n v

/-- Reset values satisfy the invariant, whatever is drawn and whatever the environment holds. -/
theorem invariant_afterReset (params : Params) (draw : Nat) (hostIn : List HostEvent) (data : Word)
    (linkIn : List LinkReply) : Invariant (State.afterReset params draw hostIn data linkIn) where
  busyAgrees := rfl
  notDoneWhileBusy := by simp [State.afterReset]
  opl := rfl
  argl := by simp [State.afterReset]
  cs := rfl
  csLine := rfl
  frame := rfl
  curCmd := rfl
  byteCnt := rfl
  counts := rfl
  crc := fun _ => trivial
  result := .inl rfl
  buf := rfl

end

/-- Settles O46. -/
theorem invAtReset : Obligations.InvAtReset := invariant_afterReset _ _ _ _ _

/-- Settles O47. By who moves: the engine's step is the sequencer's, for the frame register agrees; a host access writes
only what is the host's, and only while idle; reset starts afresh. -/
theorem stepKeepsInv : Obligations.StepKeepsInv := by
  intro s t h ht
  rcases step_cases s with ⟨-, e⟩ | ⟨n, rest, -, e⟩ | ⟨n, v, rest, -, e⟩ | ⟨rest, -, e⟩ <;> rw [e] at ht
  · have h' := h.hostIn s.hostIn.tail
    rw [engineStep_of_frameAgrees h'.frame] at ht
    cases ht
    exact h'.sequencerStep
  · cases ht
    exact (h.hostIn rest).hostRead n
  · exact (h.hostIn rest).hostWriteStep ht
  · cases ht
    exact invariant_afterReset _ _ _ _ _

/-- A host write always answers a next state. -/
theorem hostWriteStep_next (n : Nat) (v : Word) (s : State) : ∃ t, hostWriteStep n v s = .next t := by
  by_cases h0 : n = 0
  · subst h0
    obtain ⟨c, p, e⟩ := exec_decodeOp (v.extractLsb' 0 4)
    exact ⟨_, (hostWriteStep_ctrl v s).trans (e s)⟩
  · exact ⟨_, hostWriteStep_other h0 v s⟩

/-- Settles O48. Only an engine step can stop, and not where the frame register agrees. -/
theorem invAlwaysSteps : Obligations.InvAlwaysSteps := by
  intro s h
  rcases step_cases s with ⟨-, e⟩ | ⟨n, rest, -, e⟩ | ⟨n, v, rest, -, e⟩ | ⟨rest, -, e⟩ <;> rw [e]
  · exact ⟨_, engineStep_of_frameAgrees (h.hostIn s.hostIn.tail).frame⟩
  · exact ⟨_, rfl⟩
  · exact hostWriteStep_next n v _
  · exact ⟨_, rfl⟩

end Sys2Proof.Machine
end

section
/-! SUPPORT. Issuing, and a step by the row it runs. -/

namespace Sys2Proof.Machine

section
variable {s : State}

/-! ## The engine's step by what it fetches -/

theorem engineStep_instr {i : Instr} (h : s.fetch = .instr i) : engineStep s = exec i s := by
  simp only [engineStep, h]

theorem engineStep_bare (h : s.fetch = .bare) : engineStep s = .next s.sequencerStep := by
  simp only [engineStep, h]

/-- A position that makes no exchange makes its call. -/
theorem step_call (hh : s.hostIn = []) (hs : s.sends = none) : step s = .next s.callStep := by
  have hp : ∀ c, s.phase ≠ .cmdFrame c 0 := by rintro c hc; simp [State.sends, hc] at hs
  rw [step_alone hh, engineStep_eq_sequencerStep hp, State.sequencerStep, hs]

/-- A position that exchanges a byte, with the reply listed: the position handles that byte. -/
theorem engineStep_exchange {t r : Byte} {rest : List LinkReply} (hp : ∀ c, s.phase ≠ .cmdFrame c 0)
    (hs : s.sends = some t) (hl : s.linkIn = .byte r :: rest) :
    engineStep s = .next (State.received r { s with linkIn := rest, trace := s.trace ++ [.x t r] }) := by
  rw [engineStep_eq_sequencerStep hp, State.sequencerStep, hs]
  exact congrArg _ (State.exchange_cons hl t _)

theorem step_exchange {t r : Byte} {rest : List LinkReply} (hh : s.hostIn = []) (hp : ∀ c, s.phase ≠ .cmdFrame c 0)
    (hs : s.sends = some t) (hl : s.linkIn = .byte r :: rest) :
    step s = .next (State.received r { s with linkIn := rest, trace := s.trace ++ [.x t r] }) :=
  (step_alone hh).trans (engineStep_exchange hp hs hl)

/-- A received byte that is a row where the engine waits for one is fetched as that row. -/
theorem fetchReceived_ok {reply : LinkReply} {code : Byte → Code} {r : Byte} {i : Instr} (hr : reply = .byte r)
    (hd : decode (code r) = .ok i) : fetchReceived reply code = .instr i := by
  subst hr
  simp only [fetchReceived, hd]

theorem fetchSent_ok {t : Byte} {i : Instr} (hd : decode (.sent t) = .ok i) : fetchSent t = .instr i := by
  simp only [fetchSent, hd]

theorem fetchFrame_ok {f : Frame} {i : Instr} (hd : decode (.frame f) = .ok i) : fetchFrame f = .instr i := by
  simp only [fetchFrame, hd]

/-- A frame is never the filler's row. -/
theorem fetchFrame_ne_filler (f : Frame) : fetchFrame f ≠ .instr .filler := by
  unfold fetchFrame
  cases hd : decode (.frame f) with
  | error e => simp
  | ok i =>
    rintro h
    cases h
    cases encode_of_decodeFrame hd

/-- The filler's row is fetched only where the byte to send is 0xFF. -/
theorem sends_of_fetch_filler (h : s.fetch = .instr .filler) : s.sends = some 0xFF#8 := by
  cases hp : s.phase <;> simp only [State.fetch, State.sends, hp] at h ⊢
  case cmdFrame c i =>
    split at h
    · exact absurd h (fetchFrame_ne_filler _)
    · cases h
  case blockOutToken b => cases b <;> cases h
  case stopToken => cases h
  case blockOutCrcHi =>
    split at h <;> [cases h; skip]
    simp [State.crcOut, *]
  case blockOutCrcLo =>
    split at h <;> [cases h; skip]
    simp [State.crcOut, *]
  all_goals cases h

/-- Settles O12. The position fixes the code, and the code the row. -/
theorem stepRunsLinkRow : Obligations.StepRunsLinkRow := by
  intro s hm
  have hfetch : ({ s with hostIn := s.hostIn.tail } : State).fetch = s.fetch := rfl
  have hrow {i : Instr} (h : s.fetch = .instr i) : step s = exec i { s with hostIn := s.hostIn.tail } := by
    rw [step_engine hm, engineStep_instr (hfetch.trans h)]
  refine ⟨?frame, ?token, ?stop, ?r1, ?read, ?response, ?filler, ?bare⟩
  case frame => exact fun c i hp hd => hrow (by simpa [State.fetch, hp] using fetchFrame_ok hd)
  case token => exact fun b i hp hd => hrow (by simpa [State.fetch, hp] using fetchSent_ok hd)
  case stop => exact fun i hp hd => hrow (by simpa [State.fetch, hp] using fetchSent_ok hd)
  case r1 => exact fun c r i hp hr hd => hrow (by simpa [State.fetch, hp] using fetchReceived_ok hr hd)
  case read => exact fun b r i hp hr hd => hrow (by simpa [State.fetch, hp] using fetchReceived_ok hr hd)
  case response => exact fun b r i hp hr hd => hrow (by simpa [State.fetch, hp] using fetchReceived_ok hr hd)
  case filler => exact fun h => ⟨sends_of_fetch_filler h, hrow h⟩
  case bare => exact fun h => by rw [step_engine hm, engineStep_bare (hfetch.trans h)]

/-! ## A word placed where it is fetched -/

/-- A code placed where the engine stands is fetched and run by the next step, if it decodes. -/
theorem step_place {c : Code} {i : Instr} (s : State) (h : decode c = .ok i) :
    step (s.place c) = exec i { s.place c with hostIn := s.hostIn } := by
  have hengine {t : State} (ht : t.hostIn = .wait :: s.hostIn) (hf : t.fetch = .instr i) :
      step t = exec i { t with hostIn := s.hostIn } := by
    rw [step_engine (by simp [State.engineMoves, ht]), ht]
    exact engineStep_instr hf
  cases c with
  | ctrl v =>
    cases h
    exact hostWriteStep_ctrl v _
  | frame f => exact hengine rfl (fetchFrame_ok h)
  | sent t =>
    have hsent := fetchSent_ok h
    simp only [State.place]
    split_ifs <;> subst_vars
    · exact hengine rfl hsent
    · exact hengine rfl hsent
    · exact hengine rfl hsent
    · have hfiller : t = 0xFF#8 := by
        have := encode_of_decodeSent h
        simp only [decode, decodeSent, *, if_false] at h
        split_ifs at h
        assumption
      subst hfiller
      exact hengine rfl hsent
  | r1Poll r => exact hengine rfl (fetchReceived_ok (r := r) rfl h)
  | tokenWait r => exact hengine rfl (fetchReceived_ok (r := r) rfl h)
  | dataResponse r => exact hengine rfl (fetchReceived_ok (r := r) rfl h)

/-- Settles O14. -/
theorem fetchWordRuns : Obligations.FetchWordRuns := by
  intro s nbits w i h
  unfold decodeTableWord at h
  unfold State.withFetchWord
  cases hc : tableCode nbits w with
  | none => simp [hc] at h
  | some c =>
    rw [hc] at h
    cases hd : decode c with
    | error e => simp [hd] at h
    | ok j =>
      have : j = i := by simpa [hd] using h
      subst this
      exact step_place s hd

/-! ## Issuing -/

/-- Settles O8. -/
theorem issueWhenIdle : Obligations.IssueWhenIdle := by
  intro s hbusy
  have hissue (code : BitVec 4) (p : Phase) := congrArg (Host.Outcome.next (φ := Fault) (ρ := Refusal))
    (State.issue_idle hbusy code p)
  refine ⟨?_, ?_, ?_, ?_, ?_, ?_, ?_, ?_, ?_, ?_, ?_, ?_, ?_, ?_, ?_, ?_⟩ <;> exact hissue _ _

/-- Settles O9. `CTRL` would issue an operation, which a busy engine ignores; any other write it ignores as well. -/
theorem busyWritesIgnored : Obligations.BusyWritesIgnored := by
  intro s n v rest hbusy hh
  simp only [step, hh]
  by_cases h0 : n = 0
  · subst h0
    obtain ⟨c, p, e⟩ := exec_decodeOp (v.extractLsb' 0 4)
    rw [hostWriteStep_ctrl, e]
    exact congrArg _ (State.issue_busy (by exact hbusy) c p)
  · rw [hostWriteStep_other h0, State.hostWrite, if_pos (by exact hbusy)]

/-- A reserved code's issue and its one step. -/
theorem reserved_completes (hbusy : s.busy = false) (hh : s.hostIn = []) (code : BitVec 4) :
    step (s.issue code .illegal) = .next { s with
      opl := code, argl := s.arg, result := 0xC0#8, busy := false, done := true, phase := .idle } := by
  rw [State.issue_idle hbusy]
  exact step_call (by exact hh) rfl

/-- Settles O10. -/
theorem reservedCodeCompletes : Obligations.ReservedCodeCompletes := by
  intro s code i hbusy hh hmem
  refine ⟨s.issue code .illegal, ?_, reserved_completes hbusy hh code⟩
  simp only [List.mem_cons, Prod.mk.injEq, List.not_mem_nil, or_false] at hmem
  rcases hmem with ⟨rfl, rfl⟩ | ⟨rfl, rfl⟩ | ⟨rfl, rfl⟩ | ⟨rfl, rfl⟩ | ⟨rfl, rfl⟩ <;> rfl

/-- Settles O11. -/
theorem stepRunsHostCode : Obligations.StepRunsHostCode := by
  intro s v i rest hh hd
  cases hd
  simp only [step, hh]
  exact hostWriteStep_ctrl v _

/-- Settles O42. -/
theorem unselectCompletes : Obligations.UnselectCompletes := by
  intro s hbusy hh
  refine ⟨_, exec_op .unselect s, ?_⟩
  rw [State.issue_idle hbusy, runs_succ 1 (step_call (by exact hh) rfl), runs_succ 0 (step_call (by exact hh) rfl)]
  rfl

end

end Sys2Proof.Machine
end

section
/-! SUPPORT. The rows of the link with a listed reply, the failure path, reset, the host's register file and the
Disk-I/O Adapter. -/

namespace Sys2Proof.Machine

/-! ## Frame rows and tokens -/

/-- The first byte of a frame word: the start bits and the index. -/
theorem frameByte_zero (index : BitVec 6) (arg : Word) (crc : BitVec 7) :
    frameByte (frameWord index arg crc) 0 = 0b01#2 ++ index := by
  have := congrArg List.head? (frameBytes_frameWord index arg crc)
  simpa [List.finRange, frameHead] using this

/-- Settles O15. Each row sends its frame; the first byte of a block frame is its start bits and index. -/
theorem frameRowsStart : Obligations.FrameRowsStart := by
  intro s r rest hl
  have hblock (c : Cmd) (index : BitVec 6) (block : Word) (crc : BitVec 7) :
      s.sendFrame c (frameWord index block crc) = { s with
        phase := .cmdFrame c 1, txFrame := frameWord index block crc, linkIn := rest
        trace := s.trace ++ [.x (0b01#2 ++ index) r] } := by
    rw [State.sendFrame_cons hl, frameByte_zero]
  refine ⟨?_, ?_, ?_, ?_, ?_, ?_, ?_, fun block crc => ?_, fun block crc => ?_, fun block crc => ?_,
    fun block crc => ?_⟩
  · exact congrArg _ (State.sendFrame_cons hl .cmd0 _)
  · exact congrArg _ (State.sendFrame_cons hl .cmd8 _)
  · exact congrArg _ (State.sendFrame_cons hl .cmd9 _)
  · exact congrArg _ (State.sendFrame_cons hl .cmd12 _)
  · exact congrArg _ (State.sendFrame_cons hl .cmd55 _)
  · exact congrArg _ (State.sendFrame_cons hl .acmd41 _)
  · exact congrArg _ (State.sendFrame_cons hl .cmd58 _)
  · exact congrArg _ (hblock .cmd17 17#6 block crc)
  · exact congrArg _ (hblock .cmd18 18#6 block crc)
  · exact congrArg _ (hblock .cmd24 24#6 block crc)
  · exact congrArg _ (hblock .cmd25 25#6 block crc)

/-- Settles O17. -/
theorem sentTokens : Obligations.SentTokens := by
  intro s r rest hl
  exact ⟨congrArg _ (State.exchange_cons hl _ _), congrArg _ (State.exchange_cons hl _ _),
    congrArg _ (State.exchange_cons hl _ _)⟩

/-- What a token wait does with the start token. -/
theorem State.afterTokenPoll_start (s : State) (b : BlockIn) :
    s.afterTokenPoll b 0xFE#8 =
      State.startBlock { s with pollCnt := s.pollCnt + 1, token := 0xFE#8 } (.blockIn b) := rfl

/-- Settles O23. -/
theorem readTokenRow : Obligations.ReadTokenRow := by
  intro s b rest hp hl
  simp only [exec, execTokenStartBlockRead, State.exchanged_cons hl, State.received, hp, State.afterTokenPoll_start]
  rfl

/-! ## The failure path and the result codes -/

/-- What a failed operation leaves unspecified. -/
theorem State.spoil_cases (s : State) (f : Raised) :
    ((f.op = .readSingleBlock ∨ f.op = .readData) ∧ s.spoil f = s.forgetBuf) ∨
    (f.op = .getBlocksNumber ∧ s.spoil f = s.forgetCsd) ∨
    (f.op = .init ∧ f.label < 6 ∧ s.spoil f = s.forgetResp) ∨ s.spoil f = s := by
  unfold State.spoil
  split
  case h_1 hop => exact .inl ⟨.inl hop, rfl⟩
  case h_2 hop => exact .inl ⟨.inr hop, rfl⟩
  case h_3 hop => exact .inr (.inl ⟨hop, rfl⟩)
  case h_4 hop =>
    split
    · exact .inr (.inr (.inl ⟨hop, ‹_›, rfl⟩))
    · exact .inr (.inr (.inr rfl))
  all_goals exact .inr (.inr (.inr rfl))

/-- Nothing but BUF, CSD, RESP and the draws is spoilt. -/
theorem State.spoil_eq (s : State) (f : Raised) :
    s.spoil f = { s with
      buf := (s.spoil f).buf, bufDraw := (s.spoil f).bufDraw, csd := (s.spoil f).csd, resp := (s.spoil f).resp
      draws := (s.spoil f).draws } := by
  rcases s.spoil_cases f with ⟨-, e⟩ | ⟨-, e⟩ | ⟨-, -, e⟩ | e <;>
    simp [e, State.forgetBuf, State.forgetCsd, State.forgetResp]

/-- BUF is kept but for the two block reads. -/
theorem State.spoil_buf {f : Raised} (h1 : f.op ≠ .readSingleBlock) (h2 : f.op ≠ .readData) (s : State) :
    (s.spoil f).buf = s.buf ∧ (s.spoil f).bufDraw = s.bufDraw := by
  rcases s.spoil_cases f with ⟨hop, -⟩ | ⟨-, e⟩ | ⟨-, -, e⟩ | e
  · exact absurd hop (by simp [h1, h2])
  all_goals simp [e, State.forgetCsd, State.forgetResp]

/-- CSD is kept but for the capacity query. -/
theorem State.spoil_csd {f : Raised} (h : f.op ≠ .getBlocksNumber) (s : State) : (s.spoil f).csd = s.csd := by
  rcases s.spoil_cases f with ⟨-, e⟩ | ⟨hop, -⟩ | ⟨-, -, e⟩ | e
  case inr.inl => exact absurd hop h
  all_goals simp [e, State.forgetResp]

/-- RESP is kept but for an INIT that fails before S6. -/
theorem State.spoil_resp {f : Raised} (h : f.op ≠ .init ∨ 6 ≤ f.label) (s : State) : (s.spoil f).resp = s.resp := by
  rcases s.spoil_cases f with ⟨-, e⟩ | ⟨-, e⟩ | ⟨hop, hl, -⟩ | e
  case inr.inr.inl => exact absurd hl (Nat.not_lt.mpr (h.resolve_left (absurd hop)))
  all_goals simp [e, State.forgetCsd]

/-- Settles O43. F1 and F2, the second of which spoils what its operation spoils. -/
theorem failurePath : Obligations.FailurePath := by
  intro s f hh hp
  have hF1 : step s = .next (s.failF1 f) := by
    rw [step_call hh (by simp [State.sends, hp])]
    simp only [State.callStep, hp]
  have hF2 : step (s.failF1 f) = .next ((s.failF1 f).failF2 f) := step_call (by simpa using hh) rfl
  refine ⟨(s.failF1 f).failF2 f, ?_, ?_, fun h1 h2 => ?_, fun h => ?_, fun h => ?_⟩
  · rw [runs_succ 1 hF1, runs_succ 0 hF2, runs_zero]
  · rw [State.failF2, State.spoil_eq]
    rfl
  · exact (s.failF1 f).spoil_buf h1 h2
  · exact (s.failF1 f).spoil_csd h
  · exact (s.failF1 f).spoil_resp h

/-- The failures of 60 R221, in the table's order. -/
def Failure.all : List Failure :=
  [.initCmd0, .initCmd8R1, .initCmd8R7, .initCmd55, .initAcmd41, .initCmd58, .initOcr, .csdCmd9, .csdToken, .csdVersion,
    .rdCmd17, .rdToken, .wrCmd24, .wrResp, .rdbCmd18, .rddToken, .rdeCmd12, .wrbCmd25, .wrdResp, .crcCsd, .crcRd, .crcRdd,
    .timeoutNotBusy, .timeoutR1, .timeoutToken, .timeoutAcmd41, .illegalOp]

theorem Failure.mem_all (f : Failure) : f ∈ Failure.all := by cases f <;> decide

theorem Failure.code_injective {f g : Failure} (h : f.code = g.code) : f = g := by
  have : ∀ f ∈ Failure.all, ∀ g ∈ Failure.all, f.code = g.code → f = g := by decide +kernel
  exact this f f.mem_all g g.mem_all h

theorem Failure.code_neg (f : Failure) : f.code.toInt < 0 := by
  have : ∀ f ∈ Failure.all, f.code.toInt < 0 := by decide
  exact this f f.mem_all

/-- Settles O44. -/
theorem failureCodes : Obligations.FailureCodes := by
  refine ⟨fun f g => Failure.code_injective, Failure.code_neg, by decide, fun s f h => ?_⟩
  rw [State.regValue, h]
  exact BitVec.toInt_signExtend_of_le (by decide)

/-! ## Reset -/

/-- Settles O45. Power-on and the reset event are both `State.afterReset`. -/
theorem resetLeaves : Obligations.ResetLeaves := by
  refine ⟨?_, rfl, fun s rest hh => ⟨({ s with hostIn := rest } : State).resetEvent, ?_, ?_, rfl, rfl, rfl⟩⟩
  · exact ⟨rfl, rfl, rfl, rfl, rfl, rfl, rfl, rfl, rfl, rfl, rfl⟩
  · simp only [step, hh]
  · exact ⟨rfl, rfl, rfl, rfl, rfl, rfl, rfl, rfl, rfl, rfl, rfl⟩

/-! ## The host's register file -/

/-- The register of each number of 10 R27's table, and of the numbers that are not in it. -/
theorem hostReg_resp (i : Fin 4) : hostReg (8 + i.val) = .resp i := by fin_cases i <;> rfl

theorem hostReg_csd (i : Fin 16) : hostReg (16 + i.val) = .csd i := by fin_cases i <;> rfl

theorem hostReg_buf {i : Nat} (h : i < 512) : hostReg (512 + i) = .buf i := by
  unfold hostReg
  rw [if_neg (by omega), if_neg (by omega), if_neg (by omega), if_neg (by omega), if_neg (by omega), if_neg (by omega),
    if_neg (by omega), dif_neg (by omega), dif_neg (by omega), if_pos (by omega), Nat.add_sub_cancel_left]

theorem hostReg_reserved {n : Nat} (h : n = 7 ∨ (12 ≤ n ∧ n < 16) ∨ (32 ≤ n ∧ n < 512) ∨ 1024 ≤ n) :
    hostReg n = .reserved := by
  unfold hostReg
  rw [if_neg (by omega), if_neg (by omega), if_neg (by omega), if_neg (by omega), if_neg (by omega), if_neg (by omega),
    if_neg (by omega), dif_neg (by omega), dif_neg (by omega), if_neg (by omega)]

section
variable {s : State} {n : Nat} {rest : List HostEvent}

/-- A read that the engine does not hold back gives the register's value and changes nothing else. -/
theorem step_read {r : HostReg} (hh : s.hostIn = .read n :: rest) (hn : hostReg n = r)
    (hfree : (s.busy && r.heldWhileBusy) = false) :
    step s = .next { s with hostIn := rest, hostData := ({ s with hostIn := rest } : State).regValue r } := by
  subst hn
  simp only [step, hh, State.hostRead]
  rw [if_neg (by simpa using hfree)]

/-- A read while BUSY gives some word. -/
theorem step_read_some (hh : s.hostIn = .read n :: rest) :
    ∃ v d, step s = .next { s with hostIn := rest, hostData := v, draws := d } := by
  simp only [step, hh, State.hostRead]
  split
  · exact ⟨_, _, rfl⟩
  · exact ⟨_, s.draws, rfl⟩

/-- STATUS bit by bit, by field. -/
theorem statusWord_getLsbD (s : State) (i : Nat) :
    (statusWord s).getLsbD i =
      if i < 1 then (flagBit s.busy).getLsbD i else if i - 1 < 1 then (flagBit s.done).getLsbD (i - 1)
      else if i - 1 - 1 < 1 then (flagBit s.cs).getLsbD (i - 1 - 1)
      else if i - 1 - 1 - 1 < 1 then (flagBit s.initialized).getLsbD (i - 1 - 1 - 1)
      else if i - 1 - 1 - 1 - 1 < 2 then s.stream.bits.getLsbD (i - 1 - 1 - 1 - 1)
      else if i - 1 - 1 - 1 - 1 - 2 < 2 then (0#2).getLsbD (i - 1 - 1 - 1 - 1 - 2)
      else if i - 1 - 1 - 1 - 1 - 2 - 2 < 6 then s.curCmd.getLsbD (i - 1 - 1 - 1 - 1 - 2 - 2)
      else if i - 1 - 1 - 1 - 1 - 2 - 2 - 6 < 2 then (0#2).getLsbD (i - 1 - 1 - 1 - 1 - 2 - 2 - 6)
      else if i - 1 - 1 - 1 - 1 - 2 - 2 - 6 - 2 < 4 then s.opl.getLsbD (i - 1 - 1 - 1 - 1 - 2 - 2 - 6 - 2)
      else (0#12).getLsbD (i - 1 - 1 - 1 - 1 - 2 - 2 - 6 - 2 - 4) := by
  have h : (statusWord s).getLsbD i = BitVec.getLsbD (w := 12 + 4 + 2 + 6 + 2 + 2 + 1 + 1 + 1 + 1)
    (0#12 ++ s.opl ++ 0#2 ++ s.curCmd ++ 0#2 ++ s.stream.bits ++ flagBit s.initialized ++ flagBit s.cs ++ flagBit s.done
      ++ flagBit s.busy) i := rfl
  rw [h]
  simp only [BitVec.getLsbD_append]

/-- The fields of STATUS. -/
theorem statusWord_fields (s : State) :
    (statusWord s).getLsbD 0 = s.busy ∧ (statusWord s).getLsbD 1 = s.done ∧ (statusWord s).getLsbD 2 = s.cs ∧
    (statusWord s).getLsbD 3 = s.initialized ∧ (statusWord s).extractLsb' 4 2 = s.stream.bits ∧
    (statusWord s).extractLsb' 6 2 = 0#2 ∧ (statusWord s).extractLsb' 8 6 = s.curCmd ∧
    (statusWord s).extractLsb' 14 2 = 0#2 ∧ (statusWord s).extractLsb' 16 4 = s.opl ∧
    (statusWord s).extractLsb' 20 12 = 0#12 := by
  have hflag (b : Bool) : (flagBit b).getLsbD 0 = b := by cases b <;> rfl
  refine ⟨?_, ?_, ?_, ?_, ?_, ?_, ?_, ?_, ?_, ?_⟩
  iterate 4 rw [statusWord_getLsbD]; exact hflag _
  all_goals
    apply BitVec.eq_of_getLsbD_eq
    intro i hi
    simp only [BitVec.getLsbD_extractLsb', statusWord_getLsbD, hi, decide_true, Bool.true_and]
    interval_cases i <;> rfl

/-- Settles O58. Each number's register by `hostReg`, each register's word by `State.regValue`. -/
theorem hostReads : Obligations.HostReads := by
  intro s n rest hh
  have held {r : HostReg} (h : r.heldWhileBusy = false) : (s.busy && r.heldWhileBusy) = false := by simp [h]
  refine ⟨?ctrl, ?arg, ?status, ?reserved, fun hidle => ?idle, fun _ => step_read_some hh⟩
  case ctrl => rintro rfl; exact step_read (r := .ctrl) hh rfl (held rfl)
  case arg => rintro rfl; exact step_read (r := .arg) hh rfl (held rfl)
  case status => rintro rfl; exact ⟨_, step_read (r := .status) hh rfl (held rfl), statusWord_fields _⟩
  case reserved => exact fun h => step_read hh (hostReg_reserved h) (held rfl)
  case idle =>
    have free (r : HostReg) : (s.busy && r.heldWhileBusy) = false := by rw [hidle, Bool.false_and]
    refine ⟨?_, ?_, ?_, ?_, ?_, ?_, ?_⟩
    · rintro rfl; exact step_read (r := .result) hh rfl (free _)
    · rintro rfl; exact step_read (r := .blockCountLo) hh rfl (free _)
    · rintro rfl
      have hhigh : ∀ b : BitVec 1, 0#31 ++ b = b.setWidth 32 := by decide
      rw [step_read (r := .blockCountHi) hh rfl (free _)]
      exact congrArg (fun w => Host.Outcome.next { s with hostIn := rest, hostData := w }) (hhigh _)
    · rintro rfl; exact step_read (r := .lastResp) hh rfl (free _)
    · rintro i rfl; exact step_read hh (hostReg_resp i) (free _)
    · rintro i rfl; exact step_read hh (hostReg_csd i) (free _)
    · rintro i hi rfl; exact step_read hh (hostReg_buf hi) (free _)

/-- A host write to a number other than 0, at an idle engine. -/
theorem step_write {v : Word} (hh : s.hostIn = .write n v :: rest) (hn : n ≠ 0) :
    step s = .next (({ s with hostIn := rest } : State).hostWrite n v) := by
  simp only [step, hh]
  exact hostWriteStep_other hn v _

/-- While idle ARG takes the word. -/
theorem State.hostWrite_one {s : State} (hidle : s.busy = false) (v : Word) :
    s.hostWrite 1 v = { s with arg := v } := by
  rw [State.hostWrite, if_neg (by simp [hidle])]
  rfl

/-- While idle a cell of BUF takes the low byte. -/
theorem State.hostWrite_buf {s : State} (hidle : s.busy = false) {i : Nat} (hi : i < 512) (v : Word) :
    s.hostWrite (512 + i) v = s.setBuf i (v.extractLsb' 0 8) := by
  rw [State.hostWrite, if_neg (by simp [hidle]), hostReg_buf hi]

/-- Every other register ignores the host. -/
theorem State.hostWrite_ignored {n : Nat} (harg : hostReg n ≠ .arg) (hbuf : ∀ i, hostReg n ≠ .buf i) (s : State)
    (v : Word) : s.hostWrite n v = s := by
  unfold State.hostWrite
  split
  · rfl
  split
  case h_1 h => exact absurd h harg
  case h_2 i h => exact absurd h (hbuf i)
  all_goals rfl

theorem hostReg_ne_buf {n : Nat} (h : n < 512 ∨ 1024 ≤ n) (i : Nat) : hostReg n ≠ .buf i := by
  have hrange : ¬(512 ≤ n ∧ n < 1024) := by omega
  unfold hostReg
  rw [if_neg hrange]
  split_ifs <;> simp

/-- Settles O59. -/
theorem hostWrites : Obligations.HostWrites := by
  intro s n v rest hidle hh
  refine ⟨?arg, ?buf, fun hn => ?ignored⟩
  case arg =>
    rintro rfl
    rw [step_write hh (by decide), State.hostWrite_one (by exact hidle)]
  case buf =>
    rintro i hi rfl
    rw [step_write hh (by omega), State.hostWrite_buf (by exact hidle) hi]
    refine ⟨_, rfl, ?_, fun a => State.bufByte_setBuf _ hi _ a, fun hwf => State.setBuf_wf (by exact hwf) i _⟩
    rw [State.setBuf_eq _ hi]
  case ignored =>
    have harg : hostReg n ≠ .arg := by rw [Ne, hostReg_eq_arg_iff]; omega
    rw [step_write hh (by omega), State.hostWrite_ignored harg (hostReg_ne_buf (by omega))]

end

/-! ## The Disk-I/O Adapter -/

namespace Disk

/-- Filling BUF writes cells of BUF only. -/
theorem mem_fillEvents {data : List Byte} {k : Nat} {e : HostEvent} (h : e ∈ fillEvents data k) :
    ∃ n v, e = .write n v ∧ 512 ≤ n ∧ n < 1024 := by
  obtain ⟨i, hi, he⟩ := List.mem_filterMap.mp h
  obtain ⟨b, -, rfl⟩ := Option.map_eq_some_iff.mp he
  have := List.mem_range.mp hi
  exact ⟨512 + i, _, rfl, by omega, by omega⟩

/-- A write the adapter may make: ARG, a cell of BUF, or one of its four operations to CTRL (48 R201 to R205). -/
def thinWrite (n : Nat) (v : Word) : Prop :=
  n = 1 ∨ (512 ≤ n ∧ n < 1024) ∨ (n = 0 ∧ v ∈ [0x1#32, 0x2#32, 0x3#32, 0x4#32])

theorem pollEvents_thin {n : Nat} {v : Word} (h : HostEvent.write n v ∈ pollEvents) : thinWrite n v := by
  simp [pollEvents] at h

theorem startSector_thin {d : Disk} {count : Nat} {events : List HostEvent}
    (hevents : ∀ n v, HostEvent.write n v ∈ events → thinWrite n v) {n : Nat} {v : Word}
    (h : HostEvent.write n v ∈ (d.startSector count events).2) : thinWrite n v := by
  unfold startSector at h
  split at h
  · exact (List.mem_append.mp h).elim (hevents n v) pollEvents_thin
  · simp at h

theorem startMove_thin {d : Disk} {n : Nat} {v : Word} (h : HostEvent.write n v ∈ d.startMove.2) : thinWrite n v := by
  unfold startMove at h
  split at h
  case h_3 sector count =>
    refine startSector_thin (fun n v h => ?_) h
    simp only [List.mem_cons, HostEvent.write.injEq, List.not_mem_nil, or_false] at h
    rcases h with ⟨rfl, -⟩ | ⟨rfl, rfl⟩
    · exact .inl rfl
    · exact .inr (.inr ⟨rfl, by decide⟩)
  case h_4 sector count data =>
    refine startSector_thin (fun n v h => ?_) h
    rcases List.mem_append.mp h with h | h
    · obtain ⟨m, w, he, hm⟩ := mem_fillEvents h
      cases he
      exact .inr (.inl hm)
    · simp only [List.mem_cons, HostEvent.write.injEq, List.not_mem_nil, or_false] at h
      rcases h with ⟨rfl, -⟩ | ⟨rfl, rfl⟩
      · exact .inl rfl
      · exact .inr (.inr ⟨rfl, by decide⟩)
  all_goals simp_all [thinWrite, pollEvents]

theorem write_notMem_resultMove (d : Disk) (data : Word) (n : Nat) (v : Word) :
    HostEvent.write n v ∉ (d.resultMove data).2 := by
  cases hc : d.call <;> simp only [resultMove, hc]
  case diskInit | diskStatus => simp
  all_goals split_ifs <;> simp

/-- After its first accesses a call only reads. -/
theorem move_thin {d : Disk} {data : Word} {n : Nat} {v : Word} (h : HostEvent.write n v ∈ (d.move data).2) :
    thinWrite n v := by
  cases hp : d.pos <;> simp only [move, hp] at h
  case start => exact startMove_thin h
  case result => exact absurd h (d.write_notMem_resultMove data n v)
  case polled => split_ifs at h <;> simp [pollEvents] at h
  case drained => split_ifs at h <;> simp at h
  all_goals simp at h

theorem resultMove_nonzero {d : Disk} {data : Word} (hdata : data ≠ 0#32) (hcall : d.call ≠ .diskStatus) :
    d.resultMove data = (d.done (if d.call = .diskInit then .notInitialized else .error), []) := by
  cases hc : d.call <;> simp_all [resultMove]

/-- The 33-bit count read from two registers. -/
theorem toNat_count (lo hi : Word) : (hi.extractLsb' 0 1 ++ lo).toNat = hi.toNat % 2 * 2 ^ 32 + lo.toNat := by
  rw [BitVec.toNat_append, ← Nat.shiftLeft_add_eq_or_of_lt lo.isLt, Nat.shiftLeft_eq, BitVec.extractLsb'_toNat]
  rfl

end Disk

/-- Settles O60. -/
theorem diskAdapterIsThin : Obligations.DiskAdapterIsThin := by
  refine ⟨fun d data v n h => Disk.move_thin h, fun d data hp hdata hcall => ?result, fun d lo hi hp => ?count,
    fun d data hp => ?queries⟩
  case result =>
    rw [← Disk.resultMove_nonzero hdata hcall]
    simp only [Disk.move, hp]
  case count =>
    have hlow : d.move lo = ({ d with pos := .countHi, countLo := lo }, [.read 5]) := by simp only [Disk.move, hp]
    refine ⟨_, hlow, _, rfl, rfl, ?_⟩
    exact congrArg (fun c => some (c % 2 ^ d.countWidth)) (Disk.toNat_count lo hi)
  case queries =>
    refine ⟨?_, fun hc => ?_⟩
    · rintro (hc | hc) <;> simp only [Disk.move, hp, Disk.startMove, hc]
    · simp only [Disk.move, hp, Disk.startMove, hc]

end Sys2Proof.Machine
end

section
/-! SUPPORT. What a whole step leaves alone: the frames of the sequencer's two halves, the shapes of an engine step, and
the statements about the whole machine that follow from them. -/

namespace Sys2Proof.Machine

section
variable {s t : State}

/-! ## The frames of the two halves of the sequencer -/

/-- What no position writes when it handles a received byte. -/
@[simp] theorem State.received_frame (r : Byte) (s : State) :
    (State.received r s).params = s.params ∧ (State.received r s).argl = s.argl ∧
    (State.received r s).result = s.result ∧ (State.received r s).busy = s.busy ∧
    (State.received r s).done = s.done ∧ (State.received r s).cs = s.cs ∧
    (State.received r s).initialized = s.initialized ∧ (State.received r s).stream = s.stream ∧
    (State.received r s).opl = s.opl ∧ (State.received r s).draws = s.draws ∧
    (State.received r s).bufDraw = s.bufDraw ∧ (State.received r s).csLine = s.csLine ∧
    (State.received r s).hostIn = s.hostIn ∧ (State.received r s).hostData = s.hostData ∧
    (State.received r s).linkIn = s.linkIn ∧ (State.received r s).trace = s.trace := by
  cases hp : s.phase <;> simp only [State.received, hp]
  case cmdWait c =>
    rcases s.afterBusyPoll_cases r (fun s => s.startFrame c) c.op c.label with ⟨_, e⟩ | ⟨_, _, e⟩ | ⟨_, _, e⟩ <;>
      simp [e]
  case programWait w =>
    rcases s.afterBusyPoll_cases r (fun s => s.goto (.deselect w.op)) w.op w.label with ⟨_, e⟩ | ⟨_, _, e⟩ | ⟨_, _, e⟩ <;>
      simp [e]
  all_goals simp

/-- What no call and no completion writes. -/
@[simp] theorem State.callStep_frame (s : State) :
    s.callStep.params = s.params ∧ s.callStep.argl = s.argl ∧ s.callStep.opl = s.opl ∧
    s.callStep.hostIn = s.hostIn ∧ s.callStep.hostData = s.hostData ∧ s.callStep.linkIn = s.linkIn := by
  cases hp : s.phase <;> simp [State.callStep, hp]

/-! ## The shapes of an engine step -/

/-- Sending a frame: its first byte's exchange has not returned, or byte 1 comes next. -/
theorem State.sendFrame_cases (s : State) (c : Cmd) (f : Frame) :
    s.sendFrame c f = { s.takeReply with phase := .cmdFrame c 0, txFrame := f } ∨
    ∃ r, s.sendFrame c f = { s.exchanged (frameByte f 0) r with phase := .cmdFrame c 1, txFrame := f } := by
  rcases State.exchange_cases { s with phase := .cmdFrame c 0, txFrame := f } (frameByte f 0)
    (fun _ u => u.afterFrameByte c 0) with ⟨_, e⟩ | ⟨r, _, e⟩
  · exact .inl e
  · exact .inr ⟨r, e⟩

/-- What an engine step can be: an exchange that has not returned; an exchange and what the position does with its byte;
a call; or, at a frame's first byte with another register content, an exchange that leaves only another position. -/
theorem engineStep_shapes (h : engineStep s = .next t) :
    (s.sends ≠ none ∧ ∃ p, t = { s.takeReply with phase := p }) ∨
    (∃ b r, s.sends = some b ∧ t = State.received r (s.exchanged b r)) ∨
    (s.sends = none ∧ t = s.callStep) ∨
    ∃ c p b r, s.phase = .cmdFrame c 0 ∧ t = { s.exchanged b r with phase := p } := by
  rcases engineStep_cases s with e | ⟨c, hp, -, e | ⟨c', e⟩⟩ <;> rw [e] at h <;> cases h
  · rcases s.sequencerStep_cases with ⟨b, hs, -, e⟩ | ⟨b, r, hs, -, e⟩ | ⟨hs, e⟩
    · exact .inl ⟨by simp [hs], s.phase, e⟩
    · exact .inr (.inl ⟨b, r, hs, e⟩)
    · exact .inr (.inr (.inl ⟨hs, e⟩))
  · rcases s.sendFrame_cases c' s.txFrame with e | ⟨r, e⟩
    · exact .inl ⟨by simp [State.sends, hp], _, e⟩
    · exact .inr (.inr (.inr ⟨c, _, _, r, hp, e⟩))

/-- An engine step in which the position makes no exchange is its call. -/
theorem steps_call (h : steps s t) (hs : s.sends = none) : t = ({ s with hostIn := s.hostIn.tail } : State).callStep := by
  obtain ⟨hm, ht⟩ := h
  rw [step_engine hm] at ht
  rcases engineStep_shapes ht with ⟨h, -⟩ | ⟨b, r, h, -⟩ | ⟨-, e⟩ | ⟨c, p, b, r, h, -⟩
  · exact absurd hs h
  · exact absurd (hs.symm.trans h) (by simp)
  · exact e
  · rw [State.sends, show s.phase = _ from h] at hs; cases hs

/-! ## One link event per step -/

theorem State.callStep_trace (s : State) : ∃ es, s.callStep.trace = s.trace ++ es ∧ es.length ≤ 1 := by
  cases hp : s.phase <;> simp only [State.callStep, hp]
  case initDeselect => exact ⟨[.desel], by simp, by simp⟩
  case select => exact ⟨[.sel], by simp, by simp⟩
  case deselect => exact ⟨[.desel], by simp, by simp⟩
  case failDeselect => exact ⟨[.desel], by simp, by simp⟩
  all_goals exact ⟨[], by simp, by simp⟩

theorem engineStep_trace (h : engineStep s = .next t) : ∃ es, t.trace = s.trace ++ es ∧ es.length ≤ 1 := by
  rcases engineStep_shapes h with ⟨-, p, rfl⟩ | ⟨b, r, -, rfl⟩ | ⟨-, rfl⟩ | ⟨c, p, b, r, -, rfl⟩
  · exact ⟨[], by simp, by simp⟩
  · exact ⟨[.x b r], by simp, by simp⟩
  · exact s.callStep_trace
  · exact ⟨[.x b r], by simp, by simp⟩

/-- What neither issuing nor a host write to another register writes. -/
theorem hostWriteStep_frame {n : Nat} {v : Word} (h : hostWriteStep n v s = .next t) :
    t.trace = s.trace ∧ t.result = s.result := by
  by_cases h0 : n = 0
  · subst h0
    obtain ⟨c, p, e⟩ := exec_decodeOp (v.extractLsb' 0 4)
    rw [hostWriteStep_ctrl, e] at h
    cases h
    unfold State.issue
    split <;> exact ⟨rfl, rfl⟩
  · rw [hostWriteStep_other h0] at h
    cases h
    unfold State.hostWrite
    split
    · exact ⟨rfl, rfl⟩
    · split <;> simp

theorem State.hostRead_frame (s : State) (n : Nat) :
    (s.hostRead n).trace = s.trace ∧ (s.hostRead n).result = s.result := by
  unfold State.hostRead
  split <;> exact ⟨rfl, rfl⟩

/-- Settles O49. -/
theorem oneLinkEventPerStep : Obligations.OneLinkEventPerStep := by
  intro s t ht hreset
  rcases step_cases s with ⟨hm, e⟩ | ⟨n, rest, -, e⟩ | ⟨n, v, rest, -, e⟩ | ⟨rest, hh, -⟩
  · rw [e] at ht
    obtain ⟨es, he, hl⟩ := engineStep_trace ht
    exact ⟨es, he, hl, by simp [hm]⟩
  · rw [e] at ht
    cases ht
    exact ⟨[], by simpa using (State.hostRead_frame _ n).1, by simp, fun _ => rfl⟩
  · rw [e] at ht
    exact ⟨[], by simpa using (hostWriteStep_frame ht).1, by simp, fun _ => rfl⟩
  · simp [hh] at hreset

/-! ## RESULT and the session flags at completion -/

theorem State.succeed_completes (s : State) (op : Op) :
    (s.succeed op).result = 0#8 ∧ (s.succeed op).busy = false ∧ (s.succeed op).done = true ∧
    (s.succeed op).phase = .idle := by
  cases op <;> exact ⟨rfl, rfl, rfl, rfl⟩

/-- Which calls write RESULT, BUSY or DONE: the completing ones, and how. -/
theorem State.callStep_completion (s : State) :
    (s.callStep.result = s.result ∧ s.callStep.busy = s.busy ∧ s.callStep.done = s.done) ∨
    (s.phase.completing ∧ s.callStep.busy = false ∧ s.callStep.done = true ∧ s.callStep.phase = .idle) := by
  cases hp : s.phase <;> simp only [State.callStep, hp]
  case complete op =>
    obtain ⟨-, hb, hd, hph⟩ := s.succeed_completes op
    exact .inr ⟨.inl ⟨op, rfl⟩, hb, hd, hph⟩
  case illegal => exact .inr ⟨.inr (.inr rfl), rfl, rfl, rfl⟩
  case failComplete f => exact .inr ⟨.inr (.inl ⟨f, rfl⟩), rfl, rfl, rfl⟩
  all_goals exact .inl (by simp)

/-- An engine step writes RESULT, BUSY and DONE only as it completes an operation. -/
theorem engineStep_completion (h : engineStep s = .next t) :
    (t.result = s.result ∧ t.busy = s.busy ∧ t.done = s.done) ∨
    (s.phase.completing ∧ t.busy = false ∧ t.done = true ∧ t.phase = .idle) := by
  rcases engineStep_shapes h with ⟨-, p, rfl⟩ | ⟨b, r, -, rfl⟩ | ⟨-, rfl⟩ | ⟨c, p, b, r, -, rfl⟩
  · exact .inl (by simp)
  · exact .inl (by simp)
  · exact s.callStep_completion
  · exact .inl (by simp)

/-- Settles O51. -/
theorem resultAtCompletion : Obligations.ResultAtCompletion := by
  refine ⟨fun s t ht hreset => ?_, fun s t h => ?_, fun s => rfl⟩
  · rcases step_cases s with ⟨hm, e⟩ | ⟨n, rest, -, e⟩ | ⟨n, v, rest, -, e⟩ | ⟨rest, hh, -⟩
    · rw [e] at ht
      rcases engineStep_completion ht with ⟨hr, -, -⟩ | hc
      · exact .inl hr
      · exact .inr ⟨hm, hc⟩
    · rw [e] at ht
      cases ht
      exact .inl (State.hostRead_frame _ n).2
    · rw [e] at ht
      exact .inl (hostWriteStep_frame ht).2
    · simp [hh] at hreset
  · refine ⟨fun op hp => ?_, fun f hp => ?_, fun hp => ?_, fun hb hnb => ?_, fun hp => ?_⟩
    · rw [steps_call h (by simp [State.sends, hp])]
      simp only [State.callStep, hp]
      exact State.succeed_completes _ op
    · rw [steps_call h (by simp [State.sends, hp])]
      simp only [State.callStep, hp]
      exact ⟨rfl, f.failure.code_neg, rfl, rfl, rfl⟩
    · rw [steps_call h (by simp [State.sends, hp])]
      simp only [State.callStep, hp]
      exact ⟨Failure.illegalOp.code_neg, rfl, rfl, rfl⟩
    · obtain ⟨hm, ht⟩ := h
      rw [step_engine hm] at ht
      rcases engineStep_completion ht with ⟨-, hsame, -⟩ | ⟨hc, -⟩
      · rw [hnb] at hsame
        exact absurd (hsame.trans hb) (by simp)
      · exact hc
    · rw [steps_call h (by simp [State.sends, hp])]
      simp only [State.callStep, hp]

/-- Settles O53. A completing position's step is its completion, which says what it does to the flags. -/
theorem sessionFlags : Obligations.SessionFlags := by
  intro s t h
  have hcall {op : Op} (hp : s.phase = .complete op) : t = ({ s with hostIn := s.hostIn.tail } : State).succeed op := by
    rw [steps_call h (by simp [State.sends, hp])]
    simp only [State.callStep, hp]
  refine ⟨fun hp => ?_, fun hp => ?_, fun hp => ?_, ?_, fun op hp h1 h2 h3 h4 h5 => ?_, fun op hp hm => ?_, fun f hp => ?_⟩
  · rw [hcall hp]; exact ⟨rfl, rfl⟩
  · rw [hcall hp]; exact ⟨rfl, rfl⟩
  · rw [hcall hp]; exact ⟨rfl, rfl⟩
  · rintro (hp | hp) <;> rw [hcall hp] <;> exact ⟨rfl, rfl⟩
  · rw [hcall hp]
    cases op <;> simp_all [State.succeed, State.finish]
  · rw [hcall hp]
    refine ⟨?_, ?_⟩ <;> rintro rfl <;> simpa [mayIssue, State.succeed] using hm
  · rw [steps_call h (by simp [State.sends, hp])]
    simp only [State.callStep, hp]
    exact ⟨by simp, by simp [State.failF2]⟩

/-! ## Exchanges under chip-select -/

/-- A position that exchanges a byte is a selected one, or INIT's dummy bytes. -/
theorem Phase.selected_of_sends (h : s.sends ≠ none) : s.phase.selected = true ∨ ∃ k, s.phase = .initDummy k := by
  cases hp : s.phase <;> simp_all [State.sends, Phase.selected]

/-- A call makes no exchange. -/
theorem State.callStep_no_exchange (s : State) (b r : Byte) : s.callStep.trace ≠ s.trace ++ [.x b r] := by
  cases hp : s.phase <;> simp [State.callStep, hp]

/-- Settles O54. -/
theorem exchangesWhileSelected : Obligations.ExchangesWhileSelected := by
  intro s t hinv h
  refine ⟨fun b r htrace => ?_, fun hp => ?_⟩
  · have hsends : s.sends ≠ none := by
      intro hs
      rw [steps_call h hs] at htrace
      exact State.callStep_no_exchange _ b r htrace
    have hline := hinv.csLine
    rw [csLineAgrees, hinv.cs] at hline
    rcases Phase.selected_of_sends hsends with hsel | ⟨k, hk⟩
    · exact .inl ⟨hinv.cs.trans hsel, by simpa [hsel] using hline⟩
    · exact .inr ⟨by rw [hinv.cs, hk]; rfl, k, hk⟩
  · rw [steps_call h (by simp [State.sends, hp])]
    simp only [State.callStep, hp]

end

end Sys2Proof.Machine
end

section
/-! SUPPORT. Who writes what (10 R10): the clauses for one step as a relation between two states, which each half of the
sequencer satisfies position by position. -/

namespace Sys2Proof.Machine

/-- The clauses of 10 R10's last column for one step: an element that changes is one the position may write. -/
def writesAsListed (s t : State) : Prop :=
    (t.params = s.params ∧ t.arg = s.arg ∧ t.argl = s.argl ∧ t.opl = s.opl ∧ t.hostData = s.hostData) ∧
    (t.initialized ≠ s.initialized →
      s.phase = .complete .init ∨ ∃ f, s.phase = .failComplete f ∧ f.op = .init) ∧
    (t.stream ≠ s.stream →
      ∃ op ∈ [Op.init, .readBegin, .readEnd, .writeBegin, .writeEnd], s.phase = .complete op) ∧
    (t.blockCount ≠ s.blockCount → s.phase = .blockInCrcLo .csd) ∧
    (t.resp ≠ s.resp → (∃ p, s.phase = .payload p) ∨ ∃ f, s.phase = .failComplete f ∧ f.op = .init) ∧
    (t.csd ≠ s.csd → s.phase = .blockIn .csd ∨ ∃ f, s.phase = .failComplete f ∧ f.op = .getBlocksNumber) ∧
    (t.buf ≠ s.buf ∨ t.bufDraw ≠ s.bufDraw → s.phase = .blockIn .single ∨ s.phase = .blockIn .stream ∨
      ∃ f, s.phase = .failComplete f ∧ (f.op = .readSingleBlock ∨ f.op = .readData)) ∧
    (t.cs ≠ s.cs → s.phase = .initDeselect ∨ (∃ op, s.phase = .select op) ∨ (∃ op, s.phase = .deselect op) ∨
      ∃ f, s.phase = .failDeselect f) ∧
    (t.curCmd ≠ s.curCmd → (∃ op, s.phase = .select op) ∨ (∃ c, s.phase = .cmdPollR1 c) ∨ s.phase = .payload .r7) ∧
    (t.r1 ≠ s.r1 → ∃ c, s.phase = .cmdPollR1 c) ∧
    (t.dresp ≠ s.dresp → ∃ b, s.phase = .dataResponse b) ∧
    (t.token ≠ s.token → ∃ b, s.phase = .tokenWait b) ∧
    (t.pollCnt ≠ s.pollCnt → (∃ c, s.phase = .cmdWait c ∨ s.phase = .cmdPollR1 c ∨ s.phase = .cmdFrame c 5) ∨
      (∃ b, s.phase = .tokenWait b) ∨ (∃ w, s.phase = .programWait w) ∨ (∃ op, s.phase = .select op) ∨
      s.phase = .cmdStuff ∨ s.phase = .stopDiscard ∨ s.phase = .payload .r7 ∨ ∃ b, s.phase = .dataResponse b) ∧
    (t.roundCnt ≠ s.roundCnt → s.phase = .cmdPollR1 .acmd41 ∨ s.phase = .payload .r7) ∧
    (t.byteCnt ≠ s.byteCnt → s.phase = .cmdPollR1 .cmd8 ∨ s.phase = .cmdPollR1 .cmd58 ∨ (∃ p, s.phase = .payload p) ∨
      (∃ b, s.phase = .tokenWait b ∨ s.phase = .blockIn b ∨ s.phase = .blockInCrcHi b) ∨
      ∃ b, s.phase = .blockOutToken b ∨ s.phase = .blockOut b ∨ s.phase = .blockOutCrcHi b) ∧
    (t.crc16Acc ≠ s.crc16Acc → s.params.dataCrcEnable = true ∧
      ((∃ b, s.phase = .tokenWait b ∨ s.phase = .blockIn b) ∨ ∃ b, s.phase = .blockOutToken b ∨ s.phase = .blockOut b)) ∧
    (t.txFrame ≠ s.txFrame → (∃ c, s.phase = .cmdWait c ∨ s.phase = .cmdFrame c 5) ∨ s.phase = .select .readEnd) ∧
    (t.crcHi ≠ s.crcHi → ∃ b, s.phase = .blockInCrcHi b ∨ s.phase = .blockInCrcLo b) ∧
    (t.busy ≠ s.busy ∨ t.done ≠ s.done ∨ t.result ≠ s.result → s.phase.completing)

section
variable {s t : State}

/-! ## What the conditional pieces keep -/

/-- Before its last byte a frame's step moves the position only. -/
theorem State.afterFrameByte_eq {i : Fin 6} (h : i ≠ 5) (s : State) (c : Cmd) :
    ∃ j, s.afterFrameByte c i = s.goto (.cmdFrame c j) := by
  have hi : i.val + 1 < 6 := by omega
  exact ⟨_, dif_pos hi⟩

/-- No R1 check builds a frame: the one command that begins with its frame follows no other. -/
@[simp] theorem State.checkR1_txFrame (s : State) (c : Cmd) (r : Byte) : (s.checkR1 c r).txFrame = s.txFrame := by
  cases c <;> unfold State.checkR1 State.afterAcmd41 <;> dsimp only <;> split_ifs <;> simp_all [State.afterCommand]

theorem State.checkR1_roundCnt {c : Cmd} (h : c ≠ .acmd41) (s : State) (r : Byte) :
    (s.checkR1 c r).roundCnt = s.roundCnt := by
  rw [State.checkR1, if_neg h]
  split <;> simp

theorem State.checkR1_byteCnt {c : Cmd} (h8 : c ≠ .cmd8) (h58 : c ≠ .cmd58) (s : State) (r : Byte) :
    (s.checkR1 c r).byteCnt = s.byteCnt := by
  cases c <;> unfold State.checkR1 State.afterAcmd41 <;> dsimp only <;> split_ifs <;> simp_all [State.afterCommand]

/-- An R1 poll leaves its caller's check, or a state that differs in POLL_CNT and the position. -/
theorem State.afterR1Poll_cases (s : State) (c : Cmd) (r : Byte) :
    (isR1 r = true ∧ s.afterR1Poll c r = State.checkR1 { s with pollCnt := s.pollCnt + 1, r1 := r } c r) ∨
    (isR1 r = false ∧ limitReached s.params.r1Limit (s.pollCnt + 1) = true ∧
      s.afterR1Poll c r = { s with pollCnt := s.pollCnt + 1, phase := .failDeselect ⟨.timeoutR1, c.op, c.label⟩ }) ∨
    (isR1 r = false ∧ limitReached s.params.r1Limit (s.pollCnt + 1) = false ∧
      s.afterR1Poll c r = { s with pollCnt := s.pollCnt + 1 }) := by
  unfold State.afterR1Poll State.raise
  dsimp only
  split_ifs with h1 h2
  · exact .inl ⟨h1, rfl⟩
  · exact .inr (.inl ⟨by simpa using h1, h2, rfl⟩)
  · exact .inr (.inr ⟨by simpa using h1, by simpa using h2, rfl⟩)

@[simp] theorem State.checkPayload_txFrame (s : State) (p : Payload) : (s.checkPayload p).txFrame = s.txFrame := by
  cases p <;> unfold State.checkPayload <;> dsimp only <;> split_ifs <;> simp

theorem State.checkPayload_ocr (s : State) : ∃ p, s.checkPayload .ocr = s.goto p := by
  unfold State.checkPayload
  dsimp only
  split
  · exact ⟨_, rfl⟩
  · exact ⟨_, rfl⟩

theorem State.afterTokenPoll_crc (h : ¬s.params.dataCrcEnable = true) (b : BlockIn) (r : Byte) :
    (s.afterTokenPoll b r).crc16Acc = s.crc16Acc := by
  unfold State.afterTokenPoll
  dsimp only
  split_ifs <;> simp [h]

theorem State.afterCrcLoIn_blockCount {b : BlockIn} (h : b ≠ .csd) (s : State) (r : Byte) :
    (s.afterCrcLoIn b r).blockCount = s.blockCount := by
  unfold State.afterCrcLoIn
  dsimp only
  split
  · simp
  · cases b <;> simp_all [State.blockReceived]

/-! ## The two halves of the sequencer -/

theorem State.afterBusyPoll_writesAsListed (r : Byte) {ready : State → State} {op : Op} {label : Nat}
    (hp : (∃ c, s.phase = .cmdWait c) ∨ ∃ w, s.phase = .programWait w)
    (h : writesAsListed s (ready { s with pollCnt := s.pollCnt + 1 })) :
    writesAsListed s (s.afterBusyPoll r ready op label) := by
  rcases s.afterBusyPoll_cases r ready op label with ⟨_, e⟩ | ⟨_, _, e⟩ | ⟨_, _, e⟩ <;> rw [e]
  · exact h
  all_goals rcases hp with ⟨c, hp⟩ | ⟨w, hp⟩ <;> simp [writesAsListed, hp]

theorem State.received_writesAsListed (r : Byte) (s : State) : writesAsListed s (State.received r s) := by
  cases hp : s.phase <;> simp only [State.received, hp]
  case cmdWait c => exact s.afterBusyPoll_writesAsListed r (.inl ⟨c, hp⟩) (by simp [writesAsListed, hp])
  case programWait w => exact s.afterBusyPoll_writesAsListed r (.inr ⟨w, hp⟩) (by simp [writesAsListed, hp])
  case cmdFrame c i =>
    by_cases hi : i = 5
    · simp [writesAsListed, hp, hi]
    · obtain ⟨j, e⟩ := s.afterFrameByte_eq hi c
      simp [writesAsListed, hp, e]
  case cmdPollR1 c =>
    have hround (u : State) := Not.imp_symm fun h : ¬c = .acmd41 => u.checkR1_roundCnt h r
    have hbyte (u : State) := Not.imp_symm fun h : ¬(c = .cmd8 ∨ c = .cmd58) =>
      u.checkR1_byteCnt (mt .inl h) (mt .inr h) r
    rcases s.afterR1Poll_cases c r with ⟨-, e⟩ | ⟨-, -, e⟩ | ⟨-, -, e⟩ <;> rw [e]
    case inl => simpa [writesAsListed, hp] using ⟨hround _, hbyte _⟩
    all_goals simp [writesAsListed, hp]
  case payload p =>
    cases p
    case r7 => simp [writesAsListed, hp, State.afterPayloadByte]; split_ifs <;> simp
    case ocr =>
      unfold State.afterPayloadByte
      dsimp only
      split
      · simp [writesAsListed, hp]
      · obtain ⟨q, e⟩ := State.checkPayload_ocr
          { s with resp := setResp s.resp s.byteCnt r, byteCnt := s.byteCnt + 1 }
        rw [e]
        simp [writesAsListed, hp]
  case tokenWait b =>
    have hcrc := Not.imp_symm fun hc => State.afterTokenPoll_crc (s := s) hc b r
    simpa [writesAsListed, hp] using hcrc
  case blockIn b =>
    rw [State.afterDataIn_eq]
    cases b <;> split <;> simp [writesAsListed, hp, State.stored, State.storeByte] <;> exact fun he _ => he
  case blockInCrcLo b =>
    have hcount := Not.imp_symm fun hb : b ≠ .csd => State.afterCrcLoIn_blockCount hb s r
    simpa [writesAsListed, hp] using hcount
  case blockOutToken b =>
    have hcrc (he : s.params.dataCrcEnable = true) (_ : ¬0#16 = s.crc16Acc) : s.params.dataCrcEnable = true := he
    simpa [writesAsListed, hp] using hcrc
  case blockOut b =>
    rw [State.afterDataOut_eq]
    split <;> simp [writesAsListed, hp, State.dataSent] <;> exact fun he _ => he
  all_goals simp [writesAsListed, hp]

theorem State.callStep_writesAsListed (s : State) : writesAsListed s s.callStep := by
  cases hp : s.phase <;> simp only [State.callStep, hp]
  case select op => cases op <;> simp [writesAsListed, hp, State.afterSelect]
  case complete op =>
    have hc : (Phase.complete op).completing := .inl ⟨op, rfl⟩
    cases op <;> simp [writesAsListed, hp, State.succeed, hc]
  case illegal => simp [writesAsListed, hp, Phase.completing]
  case failComplete f =>
    have hc : (Phase.failComplete f).completing := .inr (.inl ⟨f, rfl⟩)
    have hresp (h : ¬f.op = .init) := s.spoil_resp (f := f) (.inl h)
    have hcsd (h : ¬f.op = .getBlocksNumber) := s.spoil_csd h
    have hbuf (h : ¬(f.op = .readSingleBlock ∨ f.op = .readData)) := s.spoil_buf (mt .inl h) (mt .inr h)
    have hbuf' (h : ¬(s.spoil f).buf = s.buf ∨ ¬(s.spoil f).bufDraw = s.bufDraw) :
        f.op = .readSingleBlock ∨ f.op = .readData :=
      by_contra fun hop => h.elim (· (hbuf hop).1) (· (hbuf hop).2)
    simpa [writesAsListed, hp, hc, State.failF2] using ⟨Not.imp_symm hresp, Not.imp_symm hcsd, hbuf'⟩
  all_goals simp [writesAsListed, hp]

/-- Settles O52. What an exchange or the host's list changes is no element of the table; the rest is the position's. -/
theorem whoWritesWhat : Obligations.WhoWritesWhat := by
  rintro s t ⟨hm, ht⟩
  rw [step_engine hm] at ht
  show writesAsListed s t
  rcases engineStep_shapes ht with ⟨-, p, rfl⟩ | ⟨b, r, -, rfl⟩ | ⟨-, rfl⟩ | ⟨c, p, b, r, -, rfl⟩
  · simp [writesAsListed]
  · exact State.received_writesAsListed r (State.exchanged { s with hostIn := s.hostIn.tail } b r)
  · exact State.callStep_writesAsListed { s with hostIn := s.hostIn.tail }
  · simp [writesAsListed]

end

end Sys2Proof.Machine
end

section
/-! SUPPORT. What the engine does not read: the two session flags (10 R19, R20), and the bytes that come back while it only
sends. As for the operands, each is a commuting square per piece of the sequencer. -/

namespace Sys2Proof.Machine

/-! ## The session flags -/

/-- `s` with other session flags. -/
def State.withSession (s : State) (a : Stream) (b : Bool) : State := { s with stream := a, initialized := b }

section
variable (s : State) (a : Stream) (b : Bool)

theorem State.withSession_ite (c : Prop) [Decidable c] (t : State) :
    (if c then s else t).withSession a b = if c then s.withSession a b else t.withSession a b :=
  apply_ite (State.withSession · a b) c s t

theorem State.afterBusyPoll_withSession (r : Byte) {ready : State → State} (op : Op) (label : Nat)
    (h : ∀ u : State, ready (u.withSession a b) = (ready u).withSession a b) :
    (s.withSession a b).afterBusyPoll r ready op label = (s.afterBusyPoll r ready op label).withSession a b := by
  simp only [State.afterBusyPoll, State.withSession_ite, ← h { s with pollCnt := s.pollCnt + 1 }]; rfl

theorem State.afterFrameByte_withSession (c : Cmd) (i : Fin 6) :
    (s.withSession a b).afterFrameByte c i = (s.afterFrameByte c i).withSession a b := by
  unfold State.afterFrameByte; split_ifs <;> rfl

theorem State.afterCommand_withSession (c : Cmd) :
    (s.withSession a b).afterCommand c = (s.afterCommand c).withSession a b := by
  cases c <;> rfl

theorem State.checkR1_withSession (c : Cmd) (r : Byte) :
    (s.withSession a b).checkR1 c r = (s.checkR1 c r).withSession a b := by
  simp only [State.checkR1, State.afterAcmd41, State.afterCommand_withSession, State.withSession_ite]; rfl

theorem State.storeByte_withSession (d : BlockIn) (r : Byte) :
    (s.withSession a b).storeByte d r = (s.storeByte d r).withSession a b := by
  cases d <;> simp only [State.storeByte, State.setBuf, State.withSession_ite] <;> rfl

theorem State.accumulate_withSession (r : Byte) :
    (s.withSession a b).accumulate r = (s.accumulate r).withSession a b := by
  simp only [State.accumulate, State.withSession_ite]; rfl

theorem State.afterInitDeselect_withSession :
    (s.withSession a b).afterInitDeselect = s.afterInitDeselect.withSession a b := by
  simp only [State.afterInitDeselect, State.withSession_ite]; rfl

/-- The byte received is handled alike under other session flags. -/
theorem State.received_withSession (r : Byte) :
    State.received r (s.withSession a b) = (State.received r s).withSession a b := by
  have hw : (s.withSession a b).phase = s.phase := rfl
  cases hp : s.phase <;> simp only [State.received, hw, hp]
  case initDummy => simp only [State.afterDummy, State.withSession_ite]; rfl
  case cmdWait c => exact s.afterBusyPoll_withSession _ _ r _ _ fun _ => rfl
  case cmdFrame => exact s.afterFrameByte_withSession ..
  case cmdPollR1 => simp only [State.afterR1Poll, State.withSession_ite, ← State.checkR1_withSession]; rfl
  case payload p => cases p <;> simp only [State.afterPayloadByte, State.checkPayload, State.withSession_ite] <;> rfl
  case tokenWait => simp only [State.afterTokenPoll, State.withSession_ite]; rfl
  case blockIn =>
    simp only [State.afterDataIn, State.storeByte_withSession, State.accumulate_withSession, State.withSession_ite]; rfl
  case blockInCrcLo d =>
    cases d <;> simp only [State.afterCrcLoIn, State.blockReceived, State.withSession_ite] <;> rfl
  case blockOut => simp only [State.afterDataOut, State.accumulate_withSession, State.withSession_ite]; rfl
  case dataResponse => simp only [State.afterDataResponse, State.withSession_ite]; rfl
  case programWait => exact s.afterBusyPoll_withSession _ _ r _ _ fun _ => rfl
  all_goals rfl

theorem State.spoil_withSession (f : Raised) : (s.withSession a b).spoil f = (s.spoil f).withSession a b := by
  unfold State.spoil; split
  case h_4 => simp only [State.withSession_ite]; rfl
  all_goals rfl

/-- A call does the same but for the flags, which a completion may write. -/
theorem State.callStep_withSession : eraseSession (s.withSession a b).callStep = eraseSession s.callStep := by
  have hw : (s.withSession a b).phase = s.phase := rfl
  cases hp : s.phase <;> simp only [State.callStep, hw, hp]
  case initDeselect =>
    show eraseSession (s.csDeassert.withSession a b).afterInitDeselect = _
    rw [State.afterInitDeselect_withSession]; rfl
  case select op => cases op <;> rfl
  case complete op => cases op <;> rfl
  case failComplete f => simp only [State.failF2, State.spoil_withSession]; rfl
  all_goals rfl

theorem State.exchange_withSession (t : Byte) {k : Byte → State → State}
    (h : ∀ r (u : State), k r (u.withSession a b) = (k r u).withSession a b) :
    (s.withSession a b).exchange t k = (s.exchange t k).withSession a b := by
  have hr : (s.withSession a b).reply t = s.reply t := rfl
  cases hs : s.reply t <;> simp only [State.exchange, hr, hs]
  case blocked => rfl
  case byte r => exact h r (s.exchanged t r)

theorem State.sendFrame_withSession (c : Cmd) (f : Frame) :
    (s.withSession a b).sendFrame c f = (s.sendFrame c f).withSession a b :=
  State.exchange_withSession { s with phase := .cmdFrame c 0, txFrame := f } a b _
    fun _ u => u.afterFrameByte_withSession a b c 0

theorem State.sequencerStep_withSession :
    eraseSession (s.withSession a b).sequencerStep = eraseSession s.sequencerStep := by
  have hw : (s.withSession a b).sends = s.sends := rfl
  cases hs : s.sends <;> simp only [State.sequencerStep, hw, hs]
  case none => exact s.callStep_withSession a b
  case some t => rw [s.exchange_withSession a b t fun r u => u.received_withSession a b r]; rfl

/-- An engine step under other session flags. -/
theorem engineStep_withSession {s t : State} (h : engineStep s = .next t) :
    ∃ t', engineStep (s.withSession a b) = .next t' ∧ eraseSession t' = eraseSession t := by
  by_cases hp : ∃ c, s.phase = .cmdFrame c 0
  · obtain ⟨c, hp⟩ := hp
    rcases engineStep_frameStart s.txFrame with e | ⟨c', e⟩
    · rw [e s c hp rfl] at h; cases h
    · rw [e s c hp rfl] at h; cases h
      exact ⟨_, e (s.withSession a b) c hp rfl, by rw [State.sendFrame_withSession]; rfl⟩
  · have hp : ∀ c, s.phase ≠ .cmdFrame c 0 := fun c hc => hp ⟨c, hc⟩
    rw [engineStep_eq_sequencerStep hp] at h; cases h
    exact ⟨_, engineStep_eq_sequencerStep (s := s.withSession a b) hp, s.sequencerStep_withSession a b⟩

/-- A host write under other session flags. -/
theorem hostWriteStep_withSession {n : Nat} {v : Word} {s t : State} (h : hostWriteStep n v s = .next t) :
    hostWriteStep n v (s.withSession a b) = .next (t.withSession a b) := by
  by_cases h0 : n = 0
  · subst h0
    obtain ⟨c, p, e⟩ := exec_decodeOp (v.extractLsb' 0 4)
    rw [hostWriteStep_ctrl, e] at h ⊢
    cases h
    exact congrArg _ (by simp only [State.issue, State.withSession_ite]; rfl)
  · rw [hostWriteStep_other h0] at h ⊢
    cases h
    refine congrArg _ ?_
    simp only [State.hostWrite, State.withSession_ite]
    cases hostReg n <;> simp only [State.setBuf, State.withSession_ite] <;> rfl

end

/-- Settles O55. -/
theorem sessionFlagsUnread : Obligations.SessionFlagsUnread := by
  intro s t a b hread ht
  show ∃ t', step (s.withSession a b) = .next t' ∧ _
  rcases step_cases s with ⟨hm, e⟩ | ⟨n, rest, hh, -⟩ | ⟨n, v, rest, hh, e⟩ | ⟨rest, hh, e⟩
  · rw [e] at ht
    rw [step_engine (s := s.withSession a b) hm]
    exact engineStep_withSession a b ht
  · exact absurd (by simp [hh]) (hread n)
  · rw [e] at ht
    refine ⟨t.withSession a b, ?_, rfl⟩
    simp only [step, show (s.withSession a b).hostIn = _ from hh]
    exact hostWriteStep_withSession a b ht
  · rw [e] at ht
    cases ht
    refine ⟨_, ?_, rfl⟩
    simp only [step, show (s.withSession a b).hostIn = _ from hh]
    rfl

/-! ## Discarded bytes -/

/-- `s` with another trace. -/
def State.withTrace (s : State) (es : List LinkEvent) : State := { s with trace := es }

section
variable {s : State} {es : List LinkEvent}

theorem State.withTrace_ite (c : Prop) [Decidable c] (u v : State) :
    (if c then u else v).withTrace es = if c then u.withTrace es else v.withTrace es :=
  apply_ite (State.withTrace · es) c u v

theorem State.afterFrameByte_withTrace (s : State) (c : Cmd) (i : Fin 6) :
    (s.withTrace es).afterFrameByte c i = (s.afterFrameByte c i).withTrace es := by
  unfold State.afterFrameByte; split_ifs <;> rfl

theorem State.accumulate_withTrace (s : State) (b : Byte) :
    (s.withTrace es).accumulate b = (s.accumulate b).withTrace es := by
  simp only [State.accumulate, State.withTrace_ite]; rfl

theorem State.blockReceived_withTrace (s : State) (b : BlockIn) :
    (s.withTrace es).blockReceived b = (s.blockReceived b).withTrace es := by
  cases b <;> simp only [State.blockReceived, State.withTrace_ite] <;> rfl

/-- Without `DATA_CRC_ENABLE` the second CRC byte, and the first one kept, are not looked at. -/
theorem State.afterCrcLoIn_disabled (h : s.params.dataCrcEnable = false) (b : BlockIn) (r : Byte) :
    s.afterCrcLoIn b r = State.blockReceived { s with crcHi := 0#8 } b := by
  simp [State.afterCrcLoIn, h]

/-- Where the byte is discarded, another one gives the same state but for the trace and the first CRC byte kept. -/
theorem State.received_of_discards (h : s.discards = true) (r r' : Byte) :
    ∃ x, State.received r' (s.withTrace es) = { (State.received r s).withTrace es with crcHi := x } ∧
      ((∀ d, s.phase ≠ .blockInCrcHi d) → x = (State.received r s).crcHi) := by
  have hw : (s.withTrace es).phase = s.phase := rfl
  have same {u : State} (e : u = (State.received r s).withTrace es) :
      ∃ x, u = { (State.received r s).withTrace es with crcHi := x } ∧
        ((∀ d, s.phase ≠ .blockInCrcHi d) → x = (State.received r s).crcHi) := ⟨_, e, fun _ => rfl⟩
  cases hp : s.phase <;> simp [State.discards, hp, Phase.discards] at h
  case blockInCrcHi b =>
    simp only [State.received, hw, hp]
    exact ⟨r', rfl, fun hd => absurd rfl (hd b)⟩
  case blockInCrcLo b =>
    rw [hp] at same
    refine same ?_
    simp only [State.received, hw, hp]
    rw [State.afterCrcLoIn_disabled h, State.afterCrcLoIn_disabled (s := s.withTrace es) h]
    exact State.blockReceived_withTrace { s with crcHi := 0#8 } b
  all_goals
    rw [hp] at same
    refine same ?_
    simp only [State.received, hw, hp]
  case initDummy => simp only [State.afterDummy, State.withTrace_ite]; rfl
  case cmdFrame => exact s.afterFrameByte_withTrace ..
  case blockOut =>
    simp only [State.afterDataOut, State.accumulate_withTrace, State.withTrace_ite]; rfl
  all_goals rfl

theorem State.sends_of_discards (h : s.discards = true) : ∃ b, s.sends = some b := by
  cases hp : s.phase <;> simp_all [State.discards, Phase.discards, State.sends]

/-- An engine step that discards its byte, with the reply listed: what it is with any other byte. -/
theorem engineStep_of_discards {t : State} {r : Byte} {rest : List LinkReply} (h : s.discards = true)
    (hl : s.linkIn = .byte r :: rest) (ht : engineStep s = .next t) :
    ∃ b, t.trace = s.trace ++ [.x b r] ∧ ∀ r', ∃ x,
      engineStep { s with linkIn := .byte r' :: rest } = .next { t with trace := s.trace ++ [.x b r'], crcHi := x } ∧
      ((∀ d, s.phase ≠ .blockInCrcHi d) → x = t.crcHi) := by
  by_cases hp : ∃ c, s.phase = .cmdFrame c 0
  · obtain ⟨c, hp⟩ := hp
    rcases engineStep_frameStart s.txFrame with e | ⟨c', e⟩ <;> rw [e s c hp rfl] at ht <;> cases ht
    rw [State.sendFrame_cons hl]
    refine ⟨_, rfl, fun r' => ⟨s.crcHi, ?_, fun _ => rfl⟩⟩
    rw [e { s with linkIn := .byte r' :: rest } c hp rfl, State.sendFrame_cons rfl]
  · have hp : ∀ c, s.phase ≠ .cmdFrame c 0 := fun c hc => hp ⟨c, hc⟩
    obtain ⟨b, hs⟩ := State.sends_of_discards h
    rw [engineStep_exchange hp hs hl] at ht
    cases ht
    refine ⟨b, by simp, fun r' => ?_⟩
    obtain ⟨x, hx, hkept⟩ := State.received_of_discards (es := s.trace ++ [.x b r'])
      (s := { s with linkIn := rest, trace := s.trace ++ [.x b r] }) h r r'
    refine ⟨x, ?_, hkept⟩
    rw [engineStep_exchange (by exact hp) (by exact hs) rfl]
    exact congrArg _ hx

end

/-- Settles O56. -/
theorem discardedBytesUnread : Obligations.DiscardedBytesUnread := by
  refine ⟨fun s t r r' rest hd hm hl ht => ?_, fun s t b r x rest he hp hm hl ht => ?_⟩
  · rw [step_engine hm] at ht
    obtain ⟨b, htrace, hother⟩ := engineStep_of_discards (s := { s with hostIn := s.hostIn.tail }) hd hl ht
    obtain ⟨x, hx, hkept⟩ := hother r'
    refine ⟨b, { t with trace := s.trace ++ [.x b r'], crcHi := x }, htrace, ?_, rfl, hkept⟩
    rw [step_engine (s := { s with linkIn := .byte r' :: rest }) hm]
    exact hx
  · have hnot (c : Cmd) : s.phase ≠ .cmdFrame c 0 := by simp [hp]
    have hs : s.sends = some 0xFF#8 := by simp [State.sends, hp]
    rw [step_engine hm, engineStep_exchange (by exact hnot) (by exact hs) (by exact hl)] at ht
    rw [step_engine (s := { s with crcHi := x }) hm, engineStep_exchange (by exact hnot) (by exact hs) (by exact hl), ← ht]
    simp only [State.received, hp]
    rw [State.afterCrcLoIn_disabled (by exact he), State.afterCrcLoIn_disabled (by exact he)]

end Sys2Proof.Machine
end

section
/-! SUPPORT. The polls and the link rows, run over the listed replies. A poll's exit test and limit are said once, for the
four kinds of poll together. -/

namespace Sys2Proof.Machine

/-! ## The polls -/

/-- The limit of the poll at a position. -/
def Phase.pollLimit (p : Params) : Phase → Nat
  | .cmdWait _ | .programWait _ => p.notBusyLimit
  | .cmdPollR1 _ => p.r1Limit
  | .tokenWait _ => p.tokenLimit
  | _ => 0

/-- What the poll at a position raises at its limit. -/
def Phase.timeout : Phase → Raised
  | .cmdWait c => ⟨.timeoutNotBusy, c.op, c.label⟩
  | .programWait w => ⟨.timeoutNotBusy, w.op, w.label⟩
  | .cmdPollR1 c => ⟨.timeoutR1, c.op, c.label⟩
  | .tokenWait b => ⟨.timeoutToken, b.op, b.label⟩
  | _ => ⟨.illegalOp, .unselect, 0⟩

section
variable {s : State} {r : Byte} {rest : List LinkReply}

/-- A byte that does not end a poll is counted, and the limit ends it. Said of the position `p`, so that it computes. -/
theorem State.received_keepsWaiting_at (s : State) (p : Phase) (h : p.keepsWaiting r = true) :
    State.received r { s with phase := p } = if limitReached (p.pollLimit s.params) (s.pollCnt + 1) then
      { s with pollCnt := s.pollCnt + 1, phase := .failDeselect p.timeout }
    else { s with pollCnt := s.pollCnt + 1, phase := p } := by
  cases p <;> simp only [Phase.keepsWaiting, bne_iff_ne, ne_eq, beq_iff_eq, Bool.false_eq_true] at h
  case cmdWait => exact if_neg (by simpa [isIdleByte] using h)
  case cmdPollR1 => exact if_neg (by simp only [isR1, h, Bool.not_true, Bool.false_eq_true, not_false_eq_true])
  case tokenWait => exact if_pos (by simpa [isIdleByte] using h)
  case programWait => exact if_neg (by simpa [isIdleByte] using h)

theorem State.received_keepsWaiting (h : s.phase.keepsWaiting r = true) :
    State.received r s = if limitReached (s.phase.pollLimit s.params) (s.pollCnt + 1) then
      { s with pollCnt := s.pollCnt + 1, phase := .failDeselect s.phase.timeout }
    else { s with pollCnt := s.pollCnt + 1 } :=
  s.received_keepsWaiting_at s.phase h

theorem sends_of_keepsWaiting (h : s.phase.keepsWaiting r = true) : s.sends = some 0xFF#8 := by
  cases hp : s.phase <;> simp [hp, Phase.keepsWaiting] at h <;> simp [State.sends, hp]

theorem ne_frameStart_of_keepsWaiting (h : s.phase.keepsWaiting r = true) (c : Cmd) : s.phase ≠ .cmdFrame c 0 := by
  rintro hp; simp [hp, Phase.keepsWaiting] at h

/-- One iteration of a poll that goes on. -/
theorem step_keepsWaiting (hh : s.hostIn = []) (hw : s.phase.keepsWaiting r = true)
    (hlim : limitReached (s.phase.pollLimit s.params) (s.pollCnt + 1) = false) (hl : s.linkIn = .byte r :: rest) :
    step s = .next { s with pollCnt := s.pollCnt + 1, linkIn := rest, trace := s.trace ++ [.x 0xFF#8 r] } := by
  rw [step_exchange hh (ne_frameStart_of_keepsWaiting hw) (sends_of_keepsWaiting hw) hl,
    State.received_keepsWaiting (by exact hw), if_neg (by simpa using hlim)]

/-- The iteration that reaches the limit. -/
theorem step_timeout (hh : s.hostIn = []) (hw : s.phase.keepsWaiting r = true)
    (hlim : limitReached (s.phase.pollLimit s.params) (s.pollCnt + 1) = true) (hl : s.linkIn = .byte r :: rest) :
    step s = .next { s with
      pollCnt := s.pollCnt + 1, linkIn := rest, trace := s.trace ++ [.x 0xFF#8 r]
      phase := .failDeselect s.phase.timeout } := by
  rw [step_exchange hh (ne_frameStart_of_keepsWaiting hw) (sends_of_keepsWaiting hw) hl,
    State.received_keepsWaiting (by exact hw), if_pos (by simpa using hlim)]

/-- A poll goes on over bytes that do not end it, as long as its limit allows. -/
theorem runs_keepsWaiting {waits : List Byte} (hh : s.hostIn = []) (hw : ∀ b ∈ waits, s.phase.keepsWaiting b = true)
    (hlim : s.phase.pollLimit s.params = 0 ∨ s.pollCnt + waits.length < s.phase.pollLimit s.params)
    (hl : s.linkIn = bytes waits ++ rest) :
    runs waits.length s = .next { s with
      pollCnt := s.pollCnt + waits.length, linkIn := rest, trace := s.trace ++ polled waits } := by
  induction waits generalizing s with
  | nil => subst hl; simp
  | cons b bs ih =>
    have hreach : limitReached (s.phase.pollLimit s.params) (s.pollCnt + 1) = false := by
      rw [Bool.eq_false_iff, ne_eq, limitReached_iff]
      simp only [List.length_cons] at hlim
      omega
    rw [List.length_cons, runs_succ _ (step_keepsWaiting hh (hw b (by simp)) hreach hl),
      ih (by exact hh) (by exact fun b' hb' => hw b' (by simp [hb'])) (by simp only [List.length_cons] at hlim ⊢; omega)
        (by rfl)]
    simp [Nat.add_assoc, Nat.add_comm 1]

/-- A poll that its limit ends: it takes exactly that many bytes. -/
theorem runs_timeout {waits : List Byte} (hh : s.hostIn = []) (hw : ∀ b ∈ waits, s.phase.keepsWaiting b = true)
    (h0 : s.pollCnt = 0) (hlim : s.phase.pollLimit s.params ≠ 0) (hn : waits.length = s.phase.pollLimit s.params)
    (hl : s.linkIn = bytes waits ++ rest) :
    runs waits.length s = .next { s with
      pollCnt := waits.length, linkIn := rest, trace := s.trace ++ polled waits
      phase := .failDeselect s.phase.timeout } := by
  rcases List.eq_nil_or_concat waits with rfl | ⟨bs, b, rfl⟩
  · exact absurd hn.symm (by simpa using hlim)
  · simp only [List.concat_eq_append, List.length_append, List.length_singleton] at hn hl hw ⊢
    have hpoll := runs_keepsWaiting (waits := bs) (rest := .byte b :: rest) hh (fun b' hb' => hw b' (by simp [hb']))
      (.inr (by omega)) (by simpa using hl)
    have hreach : limitReached (s.phase.pollLimit s.params) (s.pollCnt + bs.length + 1) = true := by
      rw [limitReached_iff]
      exact ⟨hlim, by omega⟩
    rw [runs_add hpoll,
      runs_succ 0 (step_timeout (by exact hh) (by exact hw b (by simp)) (by exact hreach) (by rfl))]
    simp [h0]

/-- A poll over bytes that do not end it, and the byte that does. -/
theorem runs_poll {waits : List Byte} (hh : s.hostIn = []) (hw : ∀ b ∈ waits, s.phase.keepsWaiting b = true)
    (hs : s.sends = some 0xFF#8) (hp : ∀ c, s.phase ≠ .cmdFrame c 0)
    (hlim : s.phase.pollLimit s.params = 0 ∨ s.pollCnt + waits.length < s.phase.pollLimit s.params)
    (hl : s.linkIn = bytes (waits ++ [r]) ++ rest) :
    runs (waits.length + 1) s = .next (State.received r { s with
      pollCnt := s.pollCnt + waits.length, linkIn := rest, trace := s.trace ++ polled (waits ++ [r]) }) := by
  have hpoll := runs_keepsWaiting (waits := waits) (rest := .byte r :: rest) hh hw hlim (by simpa using hl)
  have hexchange := step_exchange (s := { s with
    pollCnt := s.pollCnt + waits.length, linkIn := .byte r :: rest, trace := s.trace ++ polled waits })
    hh hp (by exact hs) rfl
  rw [runs_add hpoll, runs_succ 0 hexchange]
  simp

end

/-- Settles O20. -/
theorem waitNotBusy : Obligations.WaitNotBusy := by
  intro s busy rest hh h0 hbusy
  refine ⟨fun hlim hl => ⟨fun c hp => ?_, fun w hp => ?_⟩, fun hlim hn hl => ⟨fun c hp => ?_, fun w hp => ?_⟩⟩
  · rw [runs_poll hh (by simpa [hp, Phase.keepsWaiting] using hbusy) (by simp [State.sends, hp]) (by simp [hp])
      (by simpa [hp, Phase.pollLimit, h0] using hlim) hl]
    simp [State.received, hp, State.afterBusyPoll, isIdleByte, State.startFrame, h0]
  · rw [runs_poll hh (by simpa [hp, Phase.keepsWaiting] using hbusy) (by simp [State.sends, hp]) (by simp [hp])
      (by simpa [hp, Phase.pollLimit, h0] using hlim) hl]
    simp [State.received, hp, State.afterBusyPoll, isIdleByte, State.goto, h0]
  · rw [runs_timeout hh (by simpa [hp, Phase.keepsWaiting] using hbusy) h0 (by simpa [hp, Phase.pollLimit] using hlim)
      (by simpa [hp, Phase.pollLimit] using hn) hl, hp]
    rfl
  · rw [runs_timeout hh (by simpa [hp, Phase.keepsWaiting] using hbusy) h0 (by simpa [hp, Phase.pollLimit] using hlim)
      (by simpa [hp, Phase.pollLimit] using hn) hl, hp]
    rfl

/-- The last frame byte, of any command but CMD12, starts the R1 poll. -/
theorem step_lastFrameByte {s : State} {c : Cmd} {r : Byte} {rest : List LinkReply} (hh : s.hostIn = [])
    (hp : s.phase = .cmdFrame c 5) (hl : s.linkIn = .byte r :: rest) :
    step s = .next { s with
      phase := if c = .cmd12 then .cmdStuff else .cmdPollR1 c
      pollCnt := if c = .cmd12 then s.pollCnt else 0
      txFrame := 0#48, linkIn := rest, trace := s.trace ++ [.x (frameByte s.txFrame 5) r] } := by
  rw [step_exchange (t := frameByte s.txFrame 5) hh (by simp [hp]) (by simp only [State.sends, hp]) hl]
  by_cases hc : c = .cmd12 <;> simp [State.received, hp, State.afterFrameByte, State.startPoll, State.goto, hc]

/-- CMD12's stuff byte. -/
theorem step_stuff {s : State} {r : Byte} {rest : List LinkReply} (hh : s.hostIn = [])
    (hp : s.phase = .cmdStuff) (hl : s.linkIn = .byte r :: rest) :
    step s = .next { s with
      phase := .cmdPollR1 .cmd12, pollCnt := 0, linkIn := rest, trace := s.trace ++ [.x 0xFF#8 r] } := by
  rw [step_exchange (t := 0xFF#8) hh (by simp [hp]) (by simp only [State.sends, hp]) hl]
  simp [State.received, hp, State.startPoll]

/-- Settles O21. -/
theorem pollR1 : Obligations.PollR1 := by
  intro s c busy r rest hh
  refine ⟨fun hp hc hl => ⟨_, step_lastFrameByte hh hp hl, if_neg hc, if_neg hc⟩,
    fun hp hl => ⟨_, step_stuff hh hp hl, rfl, rfl⟩, fun hp h0 hbusy => ⟨fun hlim hr hl => ?_, fun hlim hn hl => ?_⟩⟩
  · rw [runs_poll hh (by simpa [hp, Phase.keepsWaiting] using hbusy) (by simp [State.sends, hp]) (by simp [hp])
      (by simpa [hp, Phase.pollLimit, h0] using hlim) hl]
    have hr1 : isR1 r = true := by rw [isR1, hr]; rfl
    simp [State.received, hp, State.afterR1Poll, hr1, h0]
  · rw [runs_timeout hh (by simpa [hp, Phase.keepsWaiting] using hbusy) h0 (by simpa [hp, Phase.pollLimit] using hlim)
      (by simpa [hp, Phase.pollLimit] using hn) hl, hp]
    rfl

/-! ## INIT's dummy bytes -/

/-- The dummy bytes from the `k`-th on. -/
theorem runs_dummy {s : State} {rs : List Byte} {rest : List LinkReply} {k : Nat} (hh : s.hostIn = [])
    (hp : s.phase = .initDummy k) (hk : k + rs.length = s.params.initDummyBytes) (hne : rs ≠ [])
    (hl : s.linkIn = bytes rs ++ rest) :
    runs rs.length s = .next { s with phase := .select .init, linkIn := rest, trace := s.trace ++ polled rs } := by
  induction rs generalizing s k with
  | nil => exact absurd rfl hne
  | cons r rs ih =>
    have hstep := step_exchange (t := 0xFF#8) hh (by simp [hp]) (by simp only [State.sends, hp]) hl
    simp only [State.received, hp, State.afterDummy] at hstep
    rw [List.length_cons] at hk ⊢
    rw [runs_succ _ hstep]
    cases rs with
    | nil => simp [show ¬(k + 1 < s.params.initDummyBytes) by simp at hk; omega, State.goto]
    | cons r' rs =>
      rw [if_pos (by simp only [List.length_cons] at hk; omega),
        ih (k := k + 1) (by exact hh) rfl (by simp only [State.goto]; omega) (by simp) (by rfl)]
      simp [State.goto]

/-- Settles O19. -/
theorem initDummyBytes : Obligations.InitDummyBytes := by
  intro s rs rest hh hp hn hl
  have hcall := step_call hh (by simp only [State.sends, hp])
  simp only [State.callStep, hp, State.csDeassert, State.afterInitDeselect] at hcall
  rw [Nat.add_comm 1, runs_succ _ hcall]
  by_cases h0 : s.params.initDummyBytes = 0
  · obtain rfl : rs = [] := List.eq_nil_of_length_eq_zero (hn.trans h0)
    subst hl
    simp [h0, State.goto]
  · rw [if_neg h0, runs_dummy (k := 0) (by exact hh) rfl (by simpa [State.goto] using hn)
      (by rintro rfl; exact h0 hn.symm) (by exact hl)]
    simp [State.goto]

/-- Settles O22. -/
theorem waitToken : Obligations.WaitToken := by
  intro s b n r rest hh hp h0
  have hskip : ∀ x ∈ List.replicate n 0xFF#8, s.phase.keepsWaiting x = true := by
    simp +contextual [hp, Phase.keepsWaiting, List.mem_replicate]
  refine ⟨fun hlim hr hl => ?_, fun hlim hn hl => ?_⟩
  · have hrun := runs_poll hh hskip (by simp [State.sends, hp]) (by simp [hp])
      (by simpa [hp, Phase.pollLimit, h0] using hlim) hl
    rw [List.length_replicate] at hrun
    refine ⟨fun hstart => hrun.trans ?_, fun hbad => hrun.trans ?_⟩
    · simp [State.received, hp, State.afterTokenPoll, isIdleByte, isStartToken, hstart, State.startBlock,
        State.startBytes, h0]
    · simp [State.received, hp, State.afterTokenPoll, isIdleByte, isStartToken, hr, hbad, State.raise, h0]
  · have hrun := runs_timeout hh hskip h0 (by simpa [hp, Phase.pollLimit] using hlim)
      (by simpa [hp, Phase.pollLimit] using hn) hl
    rw [List.length_replicate, hp] at hrun
    exact hrun

end Sys2Proof.Machine
end

section
/-! SUPPORT. Frames, the stuff byte, R1, payloads and the data response, run over the listed replies. -/

namespace Sys2Proof.Machine

section
variable {s : State} {r : Byte} {rest : List LinkReply}

/-! ## Frames -/

/-- The six bytes of a command's frame (40 R97). -/
theorem Cmd.frameBytes (c : Cmd) (argl : Word) :
    (List.finRange 6).map (frameByte (c.frame argl)) =
      frameHead c.index (c.argument argl) ++
        [((crc7 (frameHead c.index (c.argument argl))).setWidth 8 <<< 1) ||| 1#8] := by
  rw [Cmd.frame, frameBytes_frameWord, crcByte_eq_or]
  rfl

/-- A frame byte that is neither the first nor the last. -/
theorem step_frameByte {c : Cmd} {i : Fin 6} (hh : s.hostIn = []) (hp : s.phase = .cmdFrame c i) (hi : i ≠ 0)
    (h : i.val + 1 < 6) (hl : s.linkIn = .byte r :: rest) :
    step s = .next { s with
      phase := .cmdFrame c ⟨i.val + 1, h⟩, linkIn := rest, trace := s.trace ++ [.x (frameByte s.txFrame i) r] } := by
  rw [step_exchange (t := frameByte s.txFrame i) hh (by simp [hp, hi]) (by simp only [State.sends, hp]) hl]
  simp [State.received, hp, State.afterFrameByte, State.goto, h]

/-- The five frame bytes after a command's row. -/
theorem runs_frameTail {c : Cmd} {r1 r2 r3 r4 r5 : Byte} (hh : s.hostIn = []) (hp : s.phase = .cmdFrame c 1)
    (hl : s.linkIn = bytes [r1, r2, r3, r4, r5] ++ rest) :
    runs 5 s = .next { s with
      phase := if c = .cmd12 then .cmdStuff else .cmdPollR1 c
      pollCnt := if c = .cmd12 then s.pollCnt else 0
      txFrame := 0#48, linkIn := rest
      trace := s.trace ++ [.x (frameByte s.txFrame 1) r1, .x (frameByte s.txFrame 2) r2, .x (frameByte s.txFrame 3) r3,
        .x (frameByte s.txFrame 4) r4, .x (frameByte s.txFrame 5) r5] } := by
  rw [runs_succ 4 (step_frameByte hh hp (by decide) (by decide) hl),
    runs_succ 3 (step_frameByte (by exact hh) rfl (by decide) (by decide) rfl),
    runs_succ 2 (step_frameByte (by exact hh) rfl (by decide) (by decide) rfl),
    runs_succ 1 (step_frameByte (by exact hh) rfl (by decide) (by decide) rfl),
    runs_succ 0 (step_lastFrameByte (by exact hh) rfl rfl)]
  simp

/-- Settles O16. -/
theorem sendFrame : Obligations.SendFrame := by
  intro s c r0 r1 r2 r3 r4 r5 rest hh hl
  refine ⟨_, (exec_row s.argl c s).trans (congrArg _ (State.sendFrame_cons hl _ _)), ?_⟩
  have hbytes := c.frameBytes s.argl
  simp only [frameHead_eq] at hbytes
  simp only [← hbytes]
  rw [runs_frameTail (by exact hh) rfl (by rfl)]
  simp [List.finRange_succ]

/-! ## The filler's row -/

theorem exec_filler (hl : s.linkIn = .byte r :: rest) :
    exec .filler s = .next (State.received r { s with linkIn := rest, trace := s.trace ++ [.x 0xFF#8 r] }) :=
  congrArg _ (State.exchange_cons hl _ _)

/-- A receive-only exchange is the filler's row. -/
theorem step_filler (hh : s.hostIn = []) (hp : ∀ c, s.phase ≠ .cmdFrame c 0) (hs : s.sends = some 0xFF#8)
    (hl : s.linkIn = .byte r :: rest) : step s = exec .filler s :=
  (step_exchange hh hp hs hl).trans (exec_filler hl).symm

/-- Settles O18. -/
theorem stuffByte : Obligations.StuffByte := by
  intro s r rest hl hh
  refine ⟨fun c hp => ⟨_, step_lastFrameByte hh hp hl, rfl⟩, fun hp => ?_, fun hp => ⟨?_, ?_⟩, fun hp => ⟨?_, ?_⟩⟩
  · exact ⟨_, step_exchange (t := 0xFD#8) hh (by simp [hp]) (by simp only [State.sends, hp]) hl,
      by simp [State.received, hp, State.goto]⟩
  · exact step_filler hh (by simp [hp]) (by simp only [State.sends, hp]) hl
  · rw [exec_filler hl]
    simp [State.received, hp, State.startPoll]
  · exact step_filler hh (by simp [hp]) (by simp only [State.sends, hp]) hl
  · rw [exec_filler hl]
    simp [State.received, hp, State.startPoll]

/-! ## R1 -/

theorem isR1_flags : ∀ flags : BitVec 7, isR1 (0#1 ++ flags) = true := by decide

/-- The R1 row at an R1 poll: the byte is counted and recorded, and the caller's check follows. -/
theorem exec_r1 {c : Cmd} {flags : BitVec 7} (hp : s.phase = .cmdPollR1 c)
    (hl : s.linkIn = .byte (0#1 ++ flags) :: rest) :
    exec (.r1 flags) s = .next (State.checkR1 { s with
      pollCnt := s.pollCnt + 1, r1 := 0#1 ++ flags, linkIn := rest, trace := s.trace ++ [.x 0xFF#8 (0#1 ++ flags)] }
      c (0#1 ++ flags)) := by
  simp only [exec, execR1, State.exchanged_cons hl, State.received, hp, State.afterR1Poll, isR1_flags, if_true]

theorem State.checkR1_required (s : State) {c : Cmd} (hc : c ≠ .acmd41) : s.checkR1 c c.requiredR1 = s.afterCommand c := by
  rw [State.checkR1, if_neg hc, if_pos rfl]

theorem State.checkR1_other (s : State) {c : Cmd} (hc : c ≠ .acmd41) (hr : r ≠ c.requiredR1) :
    s.checkR1 c r = { s with phase := .failDeselect ⟨c.failure, c.op, c.label⟩ } := by
  rw [State.checkR1, if_neg hc, if_neg hr]; rfl

/-- ACMD41's check ends the loop, fails, or begins the next round. -/
theorem State.checkR1_acmd41 (s : State) (r : Byte) :
    s.checkR1 .acmd41 r =
      if r = 0x00#8 then { s with roundCnt := s.roundCnt + 1, phase := .cmdWait .cmd58, curCmd := 58#6, pollCnt := 0 }
      else if r ≠ 0x01#8 then { s with roundCnt := s.roundCnt + 1, phase := .failDeselect ⟨.initAcmd41, .init, 7⟩ }
      else if limitReached s.params.acmd41Limit (s.roundCnt + 1) then
        { s with roundCnt := s.roundCnt + 1, phase := .failDeselect ⟨.timeoutAcmd41, .init, 7⟩ }
      else { s with roundCnt := s.roundCnt + 1, phase := .cmdWait .cmd55, curCmd := 55#6, pollCnt := 0 } :=
  rfl

/-- Settles O24. -/
theorem r1Row : Obligations.R1Row := by
  intro s c flags rest hp hl
  rw [exec_r1 hp hl]
  generalize (0#1 ++ flags : Byte) = r
  refine ⟨fun hc hr => ?other, fun hr => ?required, fun hc => ?acmd41⟩
  case other => exact congrArg _ (State.checkR1_other _ hc hr)
  case required =>
    subst hr
    refine ⟨?_, ?_, ?_, ?_, ?_, ?_, ?_, ?_, ?_⟩
    case refine_9 => rintro (rfl | rfl | rfl) <;> rfl
    all_goals rintro rfl; rfl
  case acmd41 =>
    subst hc
    simp only [State.checkR1_acmd41]
    refine ⟨fun h0 h1 => ?_, fun h1 h0 hl => ?_, fun h1 hl => ?_⟩
    · rw [if_neg h0, if_pos h1]
    · rw [if_neg (by simp [h1]), if_neg (by simp [h1]), if_pos (by rw [limitReached_iff]; exact ⟨h0, hl⟩)]
    · rw [if_neg (by simp [h1]), if_neg (by simp [h1]), if_neg (by rw [limitReached_iff]; tauto)]
      rfl

/-! ## The data response -/

/-- An accepted data response is its three ignored bits and 00101. -/
theorem accepted_eq_append : ∀ r : Byte, r &&& 0x1F#8 = 0x05#8 → r.extractLsb' 5 3 ++ 0b00101#5 = r := by decide

/-- The data response, judged. -/
theorem step_dataResponse {b : BlockOut} (hh : s.hostIn = []) (hp : s.phase = .dataResponse b)
    (hl : s.linkIn = .byte r :: rest) :
    step s = .next (State.afterDataResponse { s with linkIn := rest, trace := s.trace ++ [.x 0xFF#8 r] } b r) := by
  rw [step_exchange (t := 0xFF#8) hh (by simp [hp]) (by simp only [State.sends, hp]) hl]
  simp only [State.received, hp]

/-- Settles O25. -/
theorem dataResponse : Obligations.DataResponse := by
  intro s b r rest hh hl
  refine ⟨fun hp => ⟨_, step_exchange (t := s.crcOut.extractLsb' 0 8) hh (by simp [hp]) (by simp only [State.sends, hp]) hl,
    by simp [State.received, hp, State.goto]⟩, fun hp => ⟨fun hr => ?_, fun hr => ?_⟩⟩
  · have hexec : exec (.dataResponseAccepted (r.extractLsb' 5 3)) s =
        .next (State.afterDataResponse { s with linkIn := rest, trace := s.trace ++ [.x 0xFF#8 r] } b r) := by
      simp only [exec, execDataResponseAccepted, accepted_eq_append r hr, State.exchanged_cons hl, State.received, hp]
    exact ⟨(step_dataResponse hh hp hl).trans hexec.symm,
      hexec.trans (congrArg _ (if_pos (by simpa [isAccepted] using hr)))⟩
  · refine ⟨step_filler hh (by simp [hp]) (by simp only [State.sends, hp]) hl, ?_⟩
    rw [exec_filler hl]
    simp only [State.received, hp]
    exact congrArg _ (if_neg (by simpa [isAccepted] using hr))

/-! ## Payloads -/

/-- One payload byte. -/
theorem step_payload {p : Payload} (hh : s.hostIn = []) (hp : s.phase = .payload p) (hl : s.linkIn = .byte r :: rest) :
    step s = .next (State.afterPayloadByte { s with linkIn := rest, trace := s.trace ++ [.x 0xFF#8 r] } p r) := by
  rw [step_exchange (t := 0xFF#8) hh (by simp [hp]) (by simp only [State.sends, hp]) hl]
  simp only [State.received, hp]

/-- A payload byte that is not the last. -/
theorem step_payload_inner {p : Payload} {k : Nat} (hh : s.hostIn = []) (hp : s.phase = .payload p)
    (hk : s.byteCnt = k) (h3 : k < 3) (hl : s.linkIn = .byte r :: rest) :
    step s = .next { s with
      resp := setResp s.resp k r, byteCnt := k + 1, linkIn := rest, trace := s.trace ++ [.x 0xFF#8 r] } := by
  subst hk
  exact (step_payload hh hp hl).trans (congrArg _ (if_pos (by show s.byteCnt + 1 < 4; omega)))

/-- The payload after its four bytes, up to its check. -/
def State.payloadRead (s : State) (r0 r1 r2 r3 : Byte) (rest : List LinkReply) : State :=
  { s with resp := #v[r0, r1, r2, r3], byteCnt := 4, linkIn := rest, trace := s.trace ++ polled [r0, r1, r2, r3] }

/-- Four bytes written in order are the whole register. -/
theorem setResp_all (v : Vector Byte 4) (r0 r1 r2 r3 : Byte) :
    setResp (setResp (setResp (setResp v 0 r0) 1 r1) 2 r2) 3 r3 = #v[r0, r1, r2, r3] := by
  ext i hi
  interval_cases i <;> simp [setResp]

/-- The four exchanges of a payload and its check. -/
theorem runs_payload {p : Payload} {r0 r1 r2 r3 : Byte} (hh : s.hostIn = []) (hp : s.phase = .payload p)
    (h0 : s.byteCnt = 0) (hl : s.linkIn = bytes [r0, r1, r2, r3] ++ rest) :
    runs 4 s = .next ((s.payloadRead r0 r1 r2 r3 rest).checkPayload p) := by
  rw [runs_succ 3 (step_payload_inner (k := 0) hh hp h0 (by decide) hl),
    runs_succ 2 (step_payload_inner (k := 1) (by exact hh) (by exact hp) rfl (by decide) rfl),
    runs_succ 1 (step_payload_inner (k := 2) (by exact hh) (by exact hp) rfl (by decide) rfl),
    runs_succ 0 (step_payload (by exact hh) (by exact hp) rfl)]
  simp [State.afterPayloadByte, setResp_all, State.payloadRead]

/-- Only the required R1 of CMD8 and of CMD58 opens a payload. -/
theorem State.checkR1_payload_iff (s : State) (c : Cmd) (r : Byte) (p : Payload) :
    (s.checkR1 c r).phase = .payload p ↔
      (c = .cmd8 ∧ r = 0x01#8 ∧ p = .r7) ∨ (c = .cmd58 ∧ r = 0x00#8 ∧ p = .ocr) := by
  by_cases hc : c = .acmd41
  · subst hc
    rw [State.checkR1_acmd41]
    split_ifs <;> simp
  · by_cases hr : r = c.requiredR1
    · subst hr
      rw [State.checkR1_required _ hc]
      cases c <;> simp [State.afterCommand, State.startCommand, State.startPoll, State.startBytes, State.goto,
        Cmd.requiredR1, eq_comm]
    · rw [State.checkR1_other _ hc hr]
      cases c <;> simp_all [Cmd.requiredR1]

/-- Settles O26. -/
theorem payloads : Obligations.Payloads := by
  refine ⟨State.checkR1_payload_iff, fun s p r0 r1 r2 r3 rest hh hp h0 hl => ?_⟩
  rw [runs_payload hh hp h0 hl]
  refine ⟨?_, ?_, ?_, ?_⟩ <;> rintro rfl
  · exact fun h3 h2 => congrArg _ (if_pos (by simpa [r7Accepted, State.payloadRead] using ⟨h3, h2⟩))
  · exact fun h => congrArg _ (if_neg (by simpa [r7Accepted, State.payloadRead] using h))
  · exact fun h => congrArg _ (if_pos (by simpa [ocrAccepted, State.payloadRead] using h))
  · exact fun h => congrArg _ (if_neg (by simpa [ocrAccepted, State.payloadRead] using h))

end

end Sys2Proof.Machine
end

section
/-! SUPPORT. Blocks: the data bytes and CRC bytes of a block that comes in or goes out, run over the listed replies. -/

namespace Sys2Proof.Machine

section
variable {s : State} {r : Byte} {rest : List LinkReply}

/-! ## A block that comes in -/

theorem State.accumulate_eq (s : State) (b : Byte) :
    s.accumulate b = { s with
      crc16Acc := if s.params.dataCrcEnable = true then crc16Byte s.crc16Acc b else s.crc16Acc } := by
  unfold State.accumulate
  split_ifs <;> rfl

/-- What one data byte in writes: BUF or CSD, the counter and the running CRC. -/
theorem State.stored_eq (s : State) (b : BlockIn) (r : Byte) :
    s.stored b r = { s with
      buf := (s.storeByte b r).buf, csd := (s.storeByte b r).csd, byteCnt := s.byteCnt + 1
      crc16Acc := if s.params.dataCrcEnable = true then crc16Byte s.crc16Acc r else s.crc16Acc } := by
  simp [State.stored, State.accumulate_eq]

/-- One data byte in. -/
theorem received_dataIn {b : BlockIn} (hp : s.phase = .blockIn b) :
    State.received r s = { s.stored b r with
      phase := if s.byteCnt + 1 < b.size then .blockIn b else .blockInCrcHi b } := by
  simp only [State.received, hp, State.afterDataIn_eq, State.goto]
  split_ifs
  · rw [← hp, ← s.stored_phase b r]
  · rfl

/-- Settles O27. -/
theorem dataByteIn : Obligations.DataByteIn := by
  intro s b r rest hp hcnt hl
  refine ⟨_, (exec_filler hl).trans (congrArg _ ((received_dataIn (by exact hp)).trans (by rw [State.stored_eq]))), rfl, ?_,
    ?_, ?_⟩
  · rintro rfl
    exact ⟨rfl, rfl⟩
  · intro hb
    have hlt : s.byteCnt < Config.blockSize := Nat.lt_of_lt_of_le hcnt b.size_le
    have hcells := s.bufByte_setBuf hlt r
    cases b
    case csd => exact absurd rfl hb
    all_goals exact ⟨by simp [State.storeByte], fun a => by simpa [State.bufByte, State.storeByte] using hcells a⟩
  · exact fun hwf => State.storeByte_wf (s := { s with linkIn := rest, trace := s.trace ++ [.x 0xFF#8 r] }) hwf b r

/-- The state after one more data byte of a block, with `rest` still to come. -/
def State.dataIn (s : State) (b : BlockIn) (r : Byte) (rest : List LinkReply) : State :=
  { s with
    phase := if s.byteCnt + 1 < b.size then .blockIn b else .blockInCrcHi b
    buf := (s.storeByte b r).buf, csd := (s.storeByte b r).csd, byteCnt := s.byteCnt + 1
    crc16Acc := if s.params.dataCrcEnable = true then crc16Byte s.crc16Acc r else s.crc16Acc
    linkIn := rest, trace := s.trace ++ [.x 0xFF#8 r] }

theorem step_dataIn {b : BlockIn} (hh : s.hostIn = []) (hp : s.phase = .blockIn b) (hl : s.linkIn = .byte r :: rest) :
    step s = .next (s.dataIn b r rest) := by
  rw [step_exchange (t := 0xFF#8) hh (by simp [hp]) (by simp only [State.sends, hp]) hl, received_dataIn (by exact hp),
    State.stored_eq]
  cases b <;> simp [State.storeByte, State.dataIn]

theorem State.dataIn_csd (s : State) {b : BlockIn} (hb : b ≠ .csd) (r : Byte) (rest : List LinkReply) :
    (s.dataIn b r rest).csd = s.csd := by
  cases b <;> simp_all [State.dataIn, State.storeByte]

theorem received_dataIn_append {b : BlockIn} (h : s.byteCnt < b.size) (r : Byte) (rest : List LinkReply) :
    received (s.dataIn b r rest) b (s.byteCnt + 1) = received s b s.byteCnt ++ [r] :=
  (received_congr (s := s.storeByte b r) (t := s.dataIn b r rest) rfl (by simp [State.dataIn]) rfl b _).trans
    (received_storeByte h r)

/-- The data bytes of a block, from the ones stored already to the last: they are stored in order, and the running CRC
stays the CRC16 of what is stored. -/
theorem runs_dataIn {b : BlockIn} {data : List Byte} (hh : s.hostIn = [])
    (hp : s.phase = if s.byteCnt < b.size then .blockIn b else .blockInCrcHi b)
    (hsize : s.byteCnt + data.length = b.size) (hl : s.linkIn = bytes data ++ rest) :
    ∃ buf csd crc, runs data.length s = .next { s with
        phase := .blockInCrcHi b, byteCnt := b.size, buf := buf, csd := csd, crc16Acc := crc, linkIn := rest
        trace := s.trace ++ polled data } ∧
      (b ≠ .csd → csd = s.csd) ∧
      received { s with buf := buf, csd := csd } b b.size = received s b s.byteCnt ++ data ∧
      (s.params.dataCrcEnable = true → s.crc16Acc = crc16 (received s b s.byteCnt) →
        crc = crc16 (received s b s.byteCnt ++ data)) := by
  induction data generalizing s with
  | nil =>
    subst hl
    simp only [List.length_nil, Nat.add_zero] at hsize
    rw [if_neg (by omega)] at hp
    exact ⟨s.buf, s.csd, s.crc16Acc, by simp [← hp, ← hsize], fun _ => rfl,
      by show received s b b.size = _; rw [hsize, List.append_nil], fun _ h => by simpa using h⟩
  | cons r rs ih =>
    simp only [List.length_cons] at hsize
    have hcnt : s.byteCnt < b.size := by omega
    have hstep := step_dataIn (rest := bytes rs ++ rest) hh (hp.trans (if_pos hcnt)) hl
    obtain ⟨buf, csd, crc, hrun, hcsd, hdata, hcrc⟩ := ih (s := s.dataIn b r (bytes rs ++ rest)) hh rfl
      (by simp only [State.dataIn]; omega) rfl
    have happend := received_dataIn_append hcnt r (bytes rs ++ rest)
    refine ⟨buf, csd, crc, (runs_succ _ hstep).trans (hrun.trans (by simp [State.dataIn])),
      fun hb => (hcsd hb).trans (s.dataIn_csd hb r _), ?_, fun he h => ?_⟩
    · refine (received_congr rfl ?_ rfl b b.size).trans (hdata.trans ?_)
      · rfl
      · rw [show (s.dataIn b r (bytes rs ++ rest)).byteCnt = s.byteCnt + 1 from rfl, happend]; simp
    · have hstart : (s.dataIn b r (bytes rs ++ rest)).crc16Acc =
          crc16 (received (s.dataIn b r (bytes rs ++ rest)) b (s.byteCnt + 1)) := by
        rw [happend, crc16_append_byte, ← h]
        exact if_pos he
      rw [hcrc he hstart, show (s.dataIn b r (bytes rs ++ rest)).byteCnt = s.byteCnt + 1 from rfl, happend]; simp

/-- The first CRC byte is kept. -/
theorem step_crcHiIn {b : BlockIn} (hh : s.hostIn = []) (hp : s.phase = .blockInCrcHi b)
    (hl : s.linkIn = .byte r :: rest) :
    step s = .next { s with
      phase := .blockInCrcLo b, crcHi := r, byteCnt := s.byteCnt + 1, linkIn := rest
      trace := s.trace ++ [.x 0xFF#8 r] } := by
  rw [step_exchange (t := 0xFF#8) hh (by simp [hp]) (by simp only [State.sends, hp]) hl]
  simp [State.received, hp, State.afterCrcHiIn, State.goto]

/-- The second CRC byte: both are compared with the running CRC. -/
theorem State.received_crcLo {b : BlockIn} (hp : s.phase = .blockInCrcLo b) :
    State.received r s = if s.params.dataCrcEnable = true ∧ s.crc16Acc ≠ s.crcHi ++ r then
      { s with crcHi := 0#8, phase := .failDeselect ⟨b.crcFailure, b.op, b.label⟩ }
    else State.blockReceived { s with crcHi := 0#8 } b := by
  simp [State.received, hp, State.afterCrcLoIn, State.raise]

/-- Settles O28. -/
theorem readBlockDelivers : Obligations.ReadBlockDelivers := by
  intro s b data hi lo rest hh hb hp h0 hacc hlen hl
  have hsize : b.size = 512 := by cases b <;> simp_all [BlockIn.size, Config.blockSize]
  have hnone : received s b s.byteCnt = [] := by rw [h0]; cases b <;> simp [received]
  have hbufs (t : State) : received t b b.size = (List.range 512).map t.bufByte := by
    rw [hsize]; cases b <;> simp_all [received]
  obtain ⟨buf, csd, crc, hrun, hcsd, hdata, hcrc⟩ := runs_dataIn (b := b) (data := data)
    (rest := .byte hi :: .byte lo :: rest) hh
    (by rw [hp, if_pos (by omega)]) (by omega) (by simpa using hl)
  rw [hlen] at hrun
  rw [hnone, List.nil_append] at hdata hcrc
  have hcells (i : Nat) (h : i < data.length) : ({ s with buf := buf, csd := csd } : State).bufByte i = data[i] := by
    simp only [← hdata, hbufs]
    simp
  have hempty : s.params.dataCrcEnable = true → s.crc16Acc = crc16 [] := hacc
  rw [runs_add hrun 2, runs_succ 1 (step_crcHiIn (by exact hh) rfl rfl),
    runs_succ 0 (step_exchange (t := 0xFF#8) (by exact hh) (by simp) rfl rfl), State.received_crcLo rfl]
  have hblock (t : State) : t.blockReceived b = { t with phase := .deselect b.op } := by
    cases b <;> simp_all [State.blockReceived, State.goto]
  obtain rfl := hcsd hb
  by_cases hwrong : s.params.dataCrcEnable = true ∧ crc16 data ≠ hi ++ lo
  · rw [if_pos (by simpa [hwrong.1, hcrc hwrong.1 (hempty hwrong.1)] using hwrong.2)]
    refine ⟨_, rfl, hcells, by simp, by simp [hwrong], by simp [hsize]⟩
  · rw [if_neg (by rintro ⟨he, hne⟩; exact hwrong ⟨he, by rw [← hcrc he (hempty he)]; exact hne⟩), hblock]
    refine ⟨_, rfl, hcells, by simp, by simp [hwrong], by simp [hsize]⟩

/-- Settles O31. -/
theorem csdDecode : Obligations.CsdDecode := by
  intro s r rest hp hl
  rw [exec_filler hl, State.received_crcLo (by exact hp)]
  refine ⟨fun hw => ?_, fun hw hv => ?_, fun hw hv => ?_⟩
  · rw [if_pos (by exact hw)]; rfl
  · rw [if_neg (by exact hw)]
    exact congrArg _ (if_neg (by simpa [csdVersionAccepted] using hv))
  · rw [if_neg (by exact hw)]
    exact congrArg _ (if_pos (by simpa [csdVersionAccepted] using hv))

/-! ## A block that goes out -/

/-- The state after one more data byte has gone out, with `rest` still to come. -/
def State.dataOut (s : State) (b : BlockOut) (r : Byte) (rest : List LinkReply) : State :=
  { s with
    phase := if s.byteCnt + 1 < Config.blockSize then .blockOut b else .blockOutCrcHi b
    byteCnt := s.byteCnt + 1
    crc16Acc := if s.params.dataCrcEnable = true then crc16Byte s.crc16Acc (s.bufByte s.byteCnt) else s.crc16Acc
    linkIn := rest, trace := s.trace ++ [.x (s.bufByte s.byteCnt) r] }

theorem State.dataOut_bufByte (s : State) (b : BlockOut) (r : Byte) (rest : List LinkReply) :
    (s.dataOut b r rest).bufByte = s.bufByte :=
  rfl

theorem step_dataOut {b : BlockOut} (hh : s.hostIn = []) (hp : s.phase = .blockOut b) (hl : s.linkIn = .byte r :: rest) :
    step s = .next (s.dataOut b r rest) := by
  rw [step_exchange (t := s.bufByte s.byteCnt) hh (by simp [hp]) (by simp only [State.sends, hp]) hl]
  simp only [State.received, hp, State.afterDataOut_eq, State.dataSent, State.accumulate_eq, State.goto, State.dataOut]
  split_ifs <;> rfl

/-- The data bytes of a block, from the ones gone out already to the last: BUF in order, and the running CRC stays the
CRC16 of what has gone out. -/
theorem runs_dataOut {b : BlockOut} {rs : List Byte} (hh : s.hostIn = [])
    (hp : s.phase = if s.byteCnt < 512 then .blockOut b else .blockOutCrcHi b)
    (hsize : s.byteCnt + rs.length = 512) (hl : s.linkIn = bytes rs ++ rest) :
    ∃ crc, runs rs.length s = .next { s with
        phase := .blockOutCrcHi b, byteCnt := 512, crc16Acc := crc, linkIn := rest
        trace := s.trace ++ List.zipWith .x (((List.range 512).map s.bufByte).drop s.byteCnt) rs } ∧
      (s.params.dataCrcEnable = true → s.crc16Acc = crc16 ((List.range s.byteCnt).map s.bufByte) →
        crc = crc16 ((List.range 512).map s.bufByte)) := by
  induction rs generalizing s with
  | nil =>
    subst hl
    simp only [List.length_nil, Nat.add_zero] at hsize
    rw [if_neg (by omega)] at hp
    exact ⟨s.crc16Acc, by simp [← hp, ← hsize], fun _ h => by rw [h, hsize]⟩
  | cons r rs ih =>
    simp only [List.length_cons] at hsize
    have hcnt : s.byteCnt < 512 := by omega
    have hstep := step_dataOut (rest := bytes rs ++ rest) hh (hp.trans (if_pos hcnt)) hl
    obtain ⟨crc, hrun, hcrc⟩ := ih (s := s.dataOut b r (bytes rs ++ rest)) hh rfl (by simp only [State.dataOut]; omega) rfl
    refine ⟨crc, (runs_succ _ hstep).trans (hrun.trans ?_), fun he h => hcrc he ?_⟩
    · have hnext : ((List.range 512).map s.bufByte).drop s.byteCnt =
          s.bufByte s.byteCnt :: ((List.range 512).map s.bufByte).drop (s.byteCnt + 1) := by
        rw [List.drop_eq_getElem_cons (by simpa using hcnt)]; simp
      rw [hnext, s.dataOut_bufByte]
      simp [State.dataOut]
    · show (if s.params.dataCrcEnable = true then _ else _) = crc16 ((List.range (s.byteCnt + 1)).map s.bufByte)
      rw [if_pos he, map_bufByte_succ, crc16_append_byte, h]

/-- The state after the start token of a block that goes out, with `rest` still to come. -/
def State.startedOut (s : State) (b : BlockOut) (r : Byte) (rest : List LinkReply) : State :=
  { s with
    phase := .blockOut b, byteCnt := 0, crc16Acc := if s.params.dataCrcEnable = true then 0#16 else s.crc16Acc
    linkIn := rest, trace := s.trace ++ [.x b.token r] }

theorem State.startedOut_bufByte (s : State) (b : BlockOut) (r : Byte) (rest : List LinkReply) :
    (s.startedOut b r rest).bufByte = s.bufByte :=
  rfl

/-- The start token opens the block. -/
theorem step_startOut {b : BlockOut} (hh : s.hostIn = []) (hp : s.phase = .blockOutToken b)
    (hl : s.linkIn = .byte r :: rest) : step s = .next (s.startedOut b r rest) := by
  rw [step_exchange (t := b.token) hh (by simp [hp]) (by simp only [State.sends, hp]) hl]
  simp [State.received, hp, State.startBlock, State.startBytes, State.startedOut]

theorem step_crcHiOut {b : BlockOut} (hh : s.hostIn = []) (hp : s.phase = .blockOutCrcHi b)
    (hl : s.linkIn = .byte r :: rest) :
    step s = .next { s with
      phase := .blockOutCrcLo b, byteCnt := s.byteCnt + 1, linkIn := rest
      trace := s.trace ++ [.x (s.crcOut.extractLsb' 8 8) r] } := by
  rw [step_exchange (t := s.crcOut.extractLsb' 8 8) hh (by simp [hp]) (by simp only [State.sends, hp]) hl]
  simp [State.received, hp, State.goto]

theorem step_crcLoOut {b : BlockOut} (hh : s.hostIn = []) (hp : s.phase = .blockOutCrcLo b)
    (hl : s.linkIn = .byte r :: rest) :
    step s = .next { s with
      phase := .dataResponse b, linkIn := rest, trace := s.trace ++ [.x (s.crcOut.extractLsb' 0 8) r] } := by
  rw [step_exchange (t := s.crcOut.extractLsb' 0 8) hh (by simp [hp]) (by simp only [State.sends, hp]) hl]
  simp [State.received, hp, State.goto]

/-- A list of `n + m` elements is `n` of them and then `m`. -/
theorem exists_split {α : Type} {n m : Nat} {l : List α} (h : l.length = n + m) :
    ∃ a b, a.length = n ∧ b.length = m ∧ l = a ++ b :=
  ⟨l.take n, l.drop n, by simp [h], by simp [h], (List.take_append_drop n l).symm⟩

/-- Settles O29. -/
theorem writeBlockCarriesBuf : Obligations.WriteBlockCarriesBuf := by
  intro s b rs rest hh hp hlen hl
  obtain ⟨r0, rs, rfl⟩ := List.exists_cons_of_length_eq_add_one hlen
  obtain ⟨rs, crcs, hdata, hcrcs, rfl⟩ := exists_split (n := 512) (m := 2) (l := rs) (by simpa using hlen)
  obtain ⟨hi, lo, rfl⟩ := List.length_eq_two.mp hcrcs
  obtain ⟨crc, hrun, hcrc⟩ := runs_dataOut (b := b) (rs := rs) (rest := .byte hi :: .byte lo :: rest)
    (s := s.startedOut b r0 (bytes (rs ++ [hi, lo]) ++ rest)) hh rfl (by simpa [State.startedOut] using hdata)
    (by simp [State.startedOut])
  have hout : (if s.params.dataCrcEnable = true then crc else 0xFFFF#16) =
      if s.params.dataCrcEnable = true then crc16 ((List.range 512).map s.bufByte) else 0xFFFF#16 := by
    split_ifs with he
    · exact hcrc he (if_pos he)
    · rfl
  rw [State.startedOut_bufByte] at hrun
  rw [runs_succ 514 (step_startOut hh hp hl), runs_add (hdata ▸ hrun) 2, runs_succ 1 (step_crcHiOut (by exact hh) rfl rfl),
    runs_succ 0 (step_crcLoOut (by exact hh) rfl rfl)]
  refine ⟨_, rfl, ?_⟩
  simp [State.crcOut, State.startedOut, List.zipWith_append, hdata, hout]

end

end Sys2Proof.Machine
end

section
/-! SUPPORT. A whole command over its replies, and the runs that go on for as long as the card keeps them going. -/

namespace Sys2Proof.Machine

section
variable {s : State} {r : Byte} {rest : List LinkReply}

/-- The first frame byte, sent from the frame register. -/
theorem step_frameStart {c : Cmd} (hh : s.hostIn = []) (hp : s.phase = .cmdFrame c 0) (hf : s.txFrame = c.frame s.argl)
    (hl : s.linkIn = .byte r :: rest) :
    step s = .next { s with
      phase := .cmdFrame c 1, linkIn := rest, trace := s.trace ++ [.x (frameByte s.txFrame 0) r] } := by
  rw [step_alone hh, engineStep_of_frameAgrees (by simp [frameAgrees, hp, hf]), State.sequencerStep]
  simp only [State.sends, hp, State.exchange_cons hl, State.received, State.afterFrameByte, State.goto]
  rfl

/-- The whole frame, from the state that has just built it. -/
theorem runs_frame {c : Cmd} {rs : List Byte} (hh : s.hostIn = []) (hp : s.phase = .cmdFrame c 0)
    (hf : s.txFrame = c.frame s.argl) (hlen : rs.length = 6) (hl : s.linkIn = bytes rs ++ rest) :
    runs 6 s = .next { s with
      phase := if c = .cmd12 then .cmdStuff else .cmdPollR1 c
      pollCnt := if c = .cmd12 then s.pollCnt else 0
      txFrame := 0#48, linkIn := rest
      trace := s.trace ++ List.zipWith .x ((List.finRange 6).map (frameByte (c.frame s.argl))) rs } := by
  obtain ⟨r0, r1, r2, r3, r4, r5, rfl⟩ : ∃ r0 r1 r2 r3 r4 r5, rs = [r0, r1, r2, r3, r4, r5] := by
    match rs, hlen with
    | [r0, r1, r2, r3, r4, r5], _ => exact ⟨r0, r1, r2, r3, r4, r5, rfl⟩
  rw [runs_succ 5 (step_frameStart hh hp hf hl), runs_frameTail (by exact hh) rfl (by rfl)]
  simp [List.finRange_succ, hf]

/-! ## Polls without a limit -/

theorem Phase.pollLimit_zero {p : Params} (hn : p.notBusyLimit = 0) (hr : p.r1Limit = 0) (ht : p.tokenLimit = 0)
    (ph : Phase) : ph.pollLimit p = 0 := by
  cases ph <;> simp [Phase.pollLimit, hn, hr, ht]

/-- A host write while BUSY changes nothing. -/
theorem step_write_busy (hh : s.hostIn = []) (hb : s.busy = true) (n : Nat) (v : Word) :
    step { s with hostIn := [.write n v] } = .next s := by
  exact (busyWritesIgnored { s with hostIn := [.write n v] } n v [] hb rfl).trans (by rw [← hh])

/-- While the transport does not return, the engine stays at its step. -/
theorem step_blocked (hh : s.hostIn = []) (hs : s.sends ≠ none) (hf : frameAgrees s = true)
    (hl : s.linkIn = .blocked :: rest) : step s = .next { s with linkIn := rest } := by
  obtain ⟨b, hs⟩ := Option.ne_none_iff_exists'.mp hs
  rw [step_alone hh, engineStep_of_frameAgrees hf, State.sequencerStep, hs]
  simp [State.exchange, State.reply, State.takeReply, hl]

/-! ## ACMD41 rounds without a limit -/

/-- A command, from its wait-not-busy to the check of its R1, where its polls have no limit. -/
theorem runs_command {c : Cmd} {rs : List Byte} (hc : c ≠ .cmd12) (hh : s.hostIn = []) (hp : s.phase = .cmdWait c)
    (hn : s.params.notBusyLimit = 0) (hr1 : s.params.r1Limit = 0) (hr : r.getLsbD 7 = false)
    (hrs : answersCommand rs r) (hl : s.linkIn = bytes rs ++ rest) :
    ∃ k es, es.length = rs.length ∧ runs rs.length s = .next (State.checkR1 { s with
      phase := .cmdPollR1 c, pollCnt := k, txFrame := 0#48, r1 := r, linkIn := rest, trace := s.trace ++ es } c r) := by
  obtain ⟨busy, frame, polls, hbusy, hframe, hpolls, rfl⟩ := hrs
  have hr1' : isR1 r = true := by rw [isR1, hr]; rfl
  have hwait := runs_poll (waits := busy) (r := 0xFF#8) (rest := bytes (frame ++ (polls ++ [r])) ++ rest) hh
    (by simpa [hp, Phase.keepsWaiting] using hbusy) (by simp [State.sends, hp]) (by simp [hp])
    (.inl (by simpa [hp, Phase.pollLimit] using hn)) (by simpa using hl)
  simp only [State.received, hp, State.afterBusyPoll, isIdleByte, beq_self_eq_true, if_true, State.startFrame] at hwait
  have hsend := runs_add hwait 6
  rw [runs_frame (rs := frame) (rest := bytes (polls ++ [r]) ++ rest) (by exact hh) rfl rfl hframe (by simp)] at hsend
  simp only [if_neg hc] at hsend
  have hpoll := runs_add hsend (polls.length + 1)
  rw [runs_poll (waits := polls) (r := r) (rest := rest) (by exact hh) (by simpa [Phase.keepsWaiting] using hpolls) rfl
    (by simp) (.inl (by simpa [Phase.pollLimit] using hr1)) rfl] at hpoll
  simp only [State.received, State.afterR1Poll, hr1', if_true] at hpoll
  have hlen : (busy ++ [0xFF#8] ++ frame ++ polls ++ [r]).length = busy.length + 1 + 6 + (polls.length + 1) := by
    simp [hframe]; omega
  refine ⟨0 + polls.length + 1, polled (busy ++ [0xFF#8]) ++
    List.zipWith .x ((List.finRange 6).map (frameByte (c.frame s.argl))) frame ++
    polled (polls ++ [r]), ?_, by rw [hlen, hpoll]; simp only [List.append_assoc]⟩
  rw [hlen]
  simp [hframe]; omega

/-- A round that the card spends initialising counts, and leads back to CMD55. -/
theorem runs_initialisingRound {rs : List Byte} (hh : s.hostIn = []) (hp : s.phase = .cmdWait .cmd55)
    (hn : s.params.notBusyLimit = 0) (hr1 : s.params.r1Limit = 0) (ha : s.params.acmd41Limit = 0)
    (hrs : initialisingRound rs) (hl : s.linkIn = bytes rs ++ rest) :
    ∃ es, es.length = rs.length ∧ runs rs.length s = .next { s with
      phase := .cmdWait .cmd55, curCmd := 55#6, pollCnt := 0, txFrame := 0#48, r1 := 0x01#8, roundCnt := s.roundCnt + 1
      linkIn := rest, trace := s.trace ++ es } := by
  obtain ⟨a, b, h55, h41, rfl⟩ := hrs
  obtain ⟨k, ea, hea, hrun⟩ := runs_command (rest := bytes b ++ rest) (by decide) hh hp hn hr1 rfl h55 (by simpa using hl)
  obtain ⟨k', eb, heb, hrun'⟩ := runs_command (c := .acmd41) (r := 0x01#8) (rest := rest) (s := { s with
      phase := .cmdWait .acmd41, curCmd := 41#6, pollCnt := 0, txFrame := 0#48, r1 := 0x01#8
      linkIn := bytes b ++ rest, trace := s.trace ++ ea })
    (by decide) hh rfl hn hr1 rfl h41 rfl
  refine ⟨ea ++ eb, by simp [hea, heb], ?_⟩
  rw [List.length_append, runs_add hrun]
  refine hrun'.trans ?_
  rw [State.checkR1_acmd41, if_neg (by decide), if_neg (by decide), if_neg (by simp [limitReached, ha])]
  simp

/-- Any number of such rounds. -/
theorem runs_initialisingRounds {rounds : List (List Byte)} (hh : s.hostIn = []) (hp : s.phase = .cmdWait .cmd55)
    (hn : s.params.notBusyLimit = 0) (hr1 : s.params.r1Limit = 0) (ha : s.params.acmd41Limit = 0)
    (hrounds : ∀ rs ∈ rounds, initialisingRound rs) (hl : s.linkIn = bytes rounds.flatten ++ rest) :
    ∃ t, runs rounds.flatten.length s = .next t ∧ t.busy = s.busy ∧ t.done = s.done ∧ t.result = s.result ∧
      t.phase = .cmdWait .cmd55 ∧ t.roundCnt = s.roundCnt + rounds.length ∧ t.linkIn = rest ∧
      ∃ es, t.trace = s.trace ++ es ∧ es.length = rounds.flatten.length := by
  induction rounds generalizing s with
  | nil => exact ⟨s, rfl, rfl, rfl, rfl, hp, rfl, hl, [], by simp, rfl⟩
  | cons rs rounds ih =>
    obtain ⟨es, hes, hrun⟩ := runs_initialisingRound (rest := bytes rounds.flatten ++ rest) hh hp hn hr1 ha
      (hrounds rs (by simp)) (by simpa using hl)
    obtain ⟨t, hrun', hbusy, hdone, hresult, hphase, hround, hlink, es', htrace, hes'⟩ := ih (s := { s with
        phase := .cmdWait .cmd55, curCmd := 55#6, pollCnt := 0, txFrame := 0#48, r1 := 0x01#8, roundCnt := s.roundCnt + 1
        linkIn := bytes rounds.flatten ++ rest, trace := s.trace ++ es })
      hh rfl hn hr1 ha (fun rs' h => hrounds rs' (by simp [h])) rfl
    rw [List.flatten_cons, List.length_append]
    refine ⟨t, (runs_add hrun _).trans hrun', hbusy, hdone, hresult, hphase, ?_, hlink, es ++ es', ?_, ?_⟩
    · rw [hround, List.length_cons]; simp only; omega
    · rw [htrace, List.append_assoc]
    · rw [List.length_append, hes, hes']

end

/-- Settles O57. -/
theorem unboundedPollHangs : Obligations.UnboundedPollHangs := by
  refine ⟨fun s waits rest hh hb hw hn hr ht hl => ⟨?_, ?_⟩, fun s rounds rest hh hb hp hn hr ha hrounds hl => ?_⟩
  · refine ⟨_, runs_keepsWaiting hh hw (.inl (Phase.pollLimit_zero hn hr ht _)) hl, hb, rfl, rfl, rfl, rfl, rfl,
      fun n v => step_write_busy (by exact hh) (by exact hb) n v, _, rfl, rfl, rfl⟩
  · rintro rfl hs hf hhead
    obtain ⟨tail, rfl⟩ : ∃ tail, rest = .blocked :: tail := by
      cases rest with
      | nil => cases hhead
      | cons a tail => cases hhead; exact ⟨tail, rfl⟩
    exact step_blocked hh hs hf hl
  · obtain ⟨t, hrun, hbusy, h⟩ := runs_initialisingRounds hh hp hn hr ha hrounds hl
    exact ⟨t, hrun, hbusy.trans hb, h⟩

end Sys2Proof.Machine
end

section
/-! SUPPORT. The step-by-step machine against the sequences as written. A state of a sequence carries no position and none
of the hidden counters; the machine's state beside it is that state with the hidden elements put in. Each piece of a
sequence is simulated from an entry point of the machine, a function that sets the position, to an exit point that may
depend on what the piece returned. -/

namespace Sys2Proof.Machine

/-! ## Runs that stay busy -/

/-- The machine, left alone, gets from one state to the other. -/
def Reaches (s t : State) : Prop := ∃ n, runs n s = .next t

theorem Reaches.refl (s : State) : Reaches s s := ⟨0, rfl⟩

theorem Reaches.of_eq {s t : State} (h : s = t) : Reaches s t := h ▸ .refl s

theorem Reaches.trans {s t u : State} (h : Reaches s t) (h' : Reaches t u) : Reaches s u := by
  obtain ⟨n, h⟩ := h
  obtain ⟨m, h'⟩ := h'
  exact ⟨n + m, (runs_add h m).trans h'⟩

theorem Reaches.step {s t : State} (h : step s = .next t) : Reaches s t := ⟨1, runs_succ 0 h⟩

/-- A run's first step, taken off. -/
theorem step_of_runs_succ {n : Nat} {s t : State} (h : runs (n + 1) s = .next t) :
    ∃ u, step s = .next u ∧ runs n u = .next t := by
  cases hs : step s <;> simp [runs, Host.Core.run, Sys2Proof.core, hs] at h
  exact ⟨_, rfl, h⟩

theorem engineStep_hostIn {s t : State} (h : engineStep s = .next t) : t.hostIn = s.hostIn := by
  rcases engineStep_shapes h with ⟨-, p, rfl⟩ | ⟨b, r, -, rfl⟩ | ⟨-, rfl⟩ | ⟨c, p, b, r, -, rfl⟩ <;> simp

/-- A run that ends in a busy state has been busy throughout. -/
theorem busy_of_runs {n : Nat} {s t : State} (hh : s.hostIn = []) (h : runs n s = .next t) (hb : t.busy = true) :
    ∀ m ≤ n, ∃ v, runs m s = .next v ∧ v.busy = true := by
  induction n generalizing s with
  | zero =>
    intro m hm
    cases h
    obtain rfl : m = 0 := by omega
    exact ⟨t, rfl, hb⟩
  | succ n ih =>
    obtain ⟨u, hstep, hrun⟩ := step_of_runs_succ h
    have hengine := (step_alone hh).symm.trans hstep
    have hlater := ih ((engineStep_hostIn hengine).trans hh) hrun
    intro m hm
    cases m with
    | zero =>
      obtain ⟨v, hv, hvb⟩ := hlater 0 (Nat.zero_le n)
      cases hv
      rcases engineStep_completion hengine with ⟨-, e, -⟩ | ⟨-, e, -⟩
      · exact ⟨s, rfl, e ▸ hvb⟩
      · rw [e] at hvb; cases hvb
    | succ m => exact runs_succ m hstep ▸ hlater m (by omega)

/-! ## The hidden elements -/

/-- The elements of the machine that no sequence has: the position, the counters and the locals (10 R24, R25). -/
structure Hidden where
  phase : Phase
  pollCnt : Nat
  byteCnt : Nat
  crc16Acc : BitVec 16
  txFrame : Frame
  crcHi : Byte

/-- The machine's state beside a sequence's state. -/
def State.put (s : State) (h : Hidden) : State :=
  { s with
    phase := h.phase, pollCnt := h.pollCnt, byteCnt := h.byteCnt, crc16Acc := h.crc16Acc, txFrame := h.txFrame
    crcHi := h.crcHi }

/-- The hidden elements a state has. -/
def State.hidden (s : State) : Hidden := ⟨s.phase, s.pollCnt, s.byteCnt, s.crc16Acc, s.txFrame, s.crcHi⟩

/-- The machine runs an operation with the latched operand `a`, and the host leaves it alone. -/
def Live (a : Word) (s : State) : Prop := s.hostIn = [] ∧ s.busy = true ∧ s.argl = a

/-- How a piece of a sequence ended, and that the machine got there from `s`: to the exit point, or, where the piece
failed, to the failure path. -/
def Ended {α : Type} (a : Word) (exit : α → State → State) (s : State) : Except Raised α × State → Prop
  | (.ok x, σ) => Live a σ ∧ ∃ h, Reaches s (exit x (σ.put h))
  | (.error f, σ) => Live a σ ∧ ∃ h, Reaches s ((σ.put h).raise f)

/-- From its entry point the machine does what the piece `p` of a sequence does from `σ`. -/
def Simulates {α : Type} (a : Word) (σ : State) (p : Seq.Proc α) (entry : State → State) (exit : α → State → State) :
    Prop :=
  Live a σ → ∀ h r, p σ = some r → Ended a exit (entry (σ.put h)) r

section
variable {α β : Type} {a : Word} {σ : State} {entry : State → State}

theorem Ended.of_reaches {exit : α → State → State} {s t : State} (hst : Reaches s t) :
    ∀ {r}, Ended a exit t r → Ended a exit s r
  | (.ok _, _), ⟨hl, h, hreach⟩ => ⟨hl, h, hst.trans hreach⟩
  | (.error _, _), ⟨hl, h, hreach⟩ => ⟨hl, h, hst.trans hreach⟩

/-- A piece that returns at once. -/
theorem Simulates.pure {exit : α → State → State} {x : α}
    (hend : Live a σ → ∀ h, ∃ h', Reaches (entry (σ.put h)) (exit x (σ.put h'))) :
    Simulates a σ (Pure.pure x : Seq.Proc α) entry exit := by
  rintro hl h r ⟨⟩
  exact ⟨hl, hend hl h⟩

/-- A piece that fails. -/
theorem Simulates.throw {exit : α → State → State} {f : Raised}
    (hend : Live a σ → ∀ h, ∃ h', Reaches (entry (σ.put h)) ((σ.put h').raise f)) :
    Simulates a σ (MonadExcept.throw f : Seq.Proc α) entry exit := by
  rintro hl h r ⟨⟩
  exact ⟨hl, hend hl h⟩

theorem Seq.bind_apply (p : Seq.Proc α) (k : α → Seq.Proc β) (s : State) :
    (p >>= k) s = match p s with
      | none => none
      | some (.ok a, s') => k a s'
      | some (.error f, s') => some (.error f, s') := by
  show (p s).bind _ = _
  rcases p s with _ | ⟨_ | a, s'⟩ <;> rfl

/-- One piece after the other: the first one's exit point is the second one's entry point. -/
theorem Simulates.bind {p : Seq.Proc α} {k : α → Seq.Proc β} {mid : α → State → State} {exit : β → State → State}
    (hp : Simulates a σ p entry mid) (hk : ∀ x σ', p σ = some (.ok x, σ') → Simulates a σ' (k x) (mid x) exit) :
    Simulates a σ (p >>= k) entry exit := by
  intro hl h r hr
  rw [Seq.bind_apply] at hr
  rcases hpr : p σ with _ | ⟨f | x, σ'⟩ <;> simp only [hpr] at hr
  · cases hr
  · cases hr
    exact hp hl h _ hpr
  · obtain ⟨hl', h', hreach⟩ := hp hl h _ hpr
    exact .of_reaches hreach (hk x σ' hpr hl' h' r hr)

/-- What a sequence reads of its state. -/
theorem Simulates.get {k : State → Seq.Proc α} {exit : α → State → State} (hk : Simulates a σ (k σ) entry exit) :
    Simulates a σ (MonadState.get >>= k) entry exit :=
  hk

/-- A change of the sequence's state that the machine makes on its way, or has made. -/
theorem Simulates.change {f : State → State} {k : Unit → Seq.Proc α} {entry' : State → State} {exit : α → State → State}
    (hlive : Live a σ → Live a (f σ)) (hf : Live a σ → ∀ h, ∃ h', Reaches (entry (σ.put h)) (entry' ((f σ).put h')))
    (hk : Simulates a (f σ) (k ()) entry' exit) : Simulates a σ (modify f >>= k) entry exit := by
  intro hl h r hr
  obtain ⟨h', hreach⟩ := hf hl h
  exact .of_reaches hreach (hk (hlive hl) h' r hr)

/-- A change of the sequence's hidden counters only. -/
theorem Simulates.count {f : State → State} {k : Unit → Seq.Proc α} {exit : α → State → State}
    (hf : ∀ h, (f σ).put h = σ.put h) (hk : Simulates a (f σ) (k ()) entry exit) :
    Simulates a σ (modify f >>= k) entry exit := by
  intro hl h r hr
  have hlive : Live a ((f σ).put h) := by rw [hf h]; exact hl
  have := hk hlive h r hr
  rwa [hf h] at this

/-- What a piece is simulated for may be taken as known. -/
theorem Simulates.of_live {p : Seq.Proc α} {exit : α → State → State} (h : Live a σ → Simulates a σ p entry exit) :
    Simulates a σ p entry exit :=
  fun hl => h hl hl

/-- The machine's way to the entry point of a piece. -/
theorem Simulates.after {p : Seq.Proc α} {entry' : State → State} {exit : α → State → State}
    (hf : Live a σ → ∀ h, ∃ h', Reaches (entry (σ.put h)) (entry' (σ.put h'))) (hp : Simulates a σ p entry' exit) :
    Simulates a σ p entry exit := by
  intro hl h r hr
  obtain ⟨h', hreach⟩ := hf hl h
  exact .of_reaches hreach (hp hl h' r hr)

/-- A check of the sequence that the machine has made on its way. -/
theorem Simulates.require {c : Prop} [Decidable c] {f : Raised} {k : Unit → Seq.Proc α} {exit : α → State → State}
    (hc : c → Live a σ → ∀ h, ∃ h', Reaches (entry (σ.put h)) ((σ.put h').raise f))
    (hk : ¬c → Simulates a σ (k ()) entry exit) :
    Simulates a σ (if c then MonadExcept.throw f >>= k else k ()) entry exit := by
  split_ifs with h
  · exact .bind (mid := fun _ s => s) (.throw (hc h)) (by rintro a σ' ⟨⟩)
  · exact hk h

/-- A check of a flag that the machine has made on its way. -/
theorem Simulates.require_ok {ok : Bool} {f : Raised} {k : Unit → Seq.Proc α} {ready : State → State}
    {exit : α → State → State} (hk : Simulates a σ (k ()) ready exit) :
    Simulates a σ (if ok = false then MonadExcept.throw f >>= k else k ())
      (fun s => if ok then ready s else s.raise f) exit := by
  cases ok with
  | false => exact .require (fun _ _ h => ⟨h, .refl _⟩) (fun h => absurd rfl h)
  | true => exact hk

/-- An exchange: what the machine does with the byte is where the sequence goes on. -/
theorem Simulates.xchg {t : Byte} {k : Byte → Seq.Proc α} {entry' : Byte → State → State} {exit : α → State → State}
    (hstep : Live a σ → ∀ h r rest, σ.linkIn = .byte r :: rest → ∃ h', step (entry (σ.put h)) =
      .next (entry' r (({ σ with linkIn := rest, trace := σ.trace ++ [.x t r] } : State).put h')))
    (hk : ∀ r rest, σ.linkIn = .byte r :: rest →
      Simulates a { σ with linkIn := rest, trace := σ.trace ++ [.x t r] } (k r) (entry' r) exit) :
    Simulates a σ (Seq.xchg t >>= k) entry exit := by
  refine .bind (mid := entry') (fun hl h r hr => ?_) (fun x σ' hr => ?_)
  · simp only [Seq.xchg] at hr
    split at hr
    · rename_i r' rest hlink
      cases hr
      obtain ⟨h', hstep⟩ := hstep hl h _ _ hlink
      rw [State.exchanged_cons hlink]
      exact ⟨hl, h', .step hstep⟩
    · cases hr
  · simp only [Seq.xchg] at hr
    split at hr
    · rename_i r' rest hlink
      cases hr
      rw [State.exchanged_cons hlink]
      exact hk _ _ hlink
    · cases hr

end

/-! ## The completion -/

/-- A busy state reached, and its completing step. -/
theorem completesAs_of_reaches {s t u v : State} (hh : s.hostIn = []) (hreach : Reaches s u) (hb : u.busy = true)
    (hstep : step u = .next v) (hq : quiet v = quiet t) : completesAs s t := by
  obtain ⟨n, hrun⟩ := hreach
  exact ⟨n + 1, v, (runs_add hrun 1).trans (runs_succ 0 hstep), hq,
    fun m hm => busy_of_runs hh hrun hb m (Nat.le_of_lt_succ hm)⟩

/-- The success path's completion is the sequence's last step. -/
theorem quiet_succeed (σ : State) (h : Hidden) (op : Op) :
    quiet (((σ.put h).goto (.complete op)).succeed op) = quiet (Seq.success op σ) := by
  cases op <;> rfl

/-- What a failure spoils depends on the failure only. -/
theorem spoil_uniform (f : Raised) :
    (∀ s : State, s.spoil f = s.forgetBuf) ∨ (∀ s : State, s.spoil f = s.forgetCsd) ∨
    (∀ s : State, s.spoil f = s.forgetResp) ∨ ∀ s : State, s.spoil f = s := by
  obtain ⟨failure, op, label⟩ := f
  cases op
  case init =>
    by_cases hl : label < Payload.r7.label
    · exact .inr (.inr (.inl fun _ => if_pos hl))
    · exact .inr (.inr (.inr fun _ => if_neg hl))
  case readSingleBlock | readData => exact .inl fun _ => rfl
  case getBlocksNumber => exact .inr (.inl fun _ => rfl)
  all_goals exact .inr (.inr (.inr fun _ => rfl))

/-- F1 and F2 are the sequence's `fail E`. -/
theorem quiet_fail (σ : State) (h : Hidden) (f : Raised) :
    quiet ((((σ.put h).raise f).failF1 f).failF2 f) = quiet (Seq.failure f σ) := by
  rcases spoil_uniform f with e | e | e | e <;>
    simp [e, State.failF2, Seq.failure, quiet, State.finish, State.failF1, State.raise, State.csDeassert, State.put,
      State.forgetBuf, State.forgetCsd, State.forgetResp]

/-- An operation whose body is simulated from its first position to its completing one runs as written. -/
theorem runsAsWritten_of_simulates {op : Op}
    (hbody : ∀ a σ, Simulates a σ (Seq.body op) (·.goto op.firstPhase) (fun _ s => s.goto (.complete op))) :
    runsAsWritten op := by
  intro s t hb hh hrun
  have hissue : exec op.instr s = .next (issued s op) := by
    rw [exec_op, State.issue_idle hb]; rfl
  refine ⟨hissue, ?_⟩
  have hend := hbody s.arg (issued s op) ⟨hh, rfl, rfl⟩ (issued s op).hidden
  rw [Seq.run] at hrun
  rcases hr : Seq.body op (issued s op) with _ | ⟨f | a, σ⟩ <;> simp only [hr] at hrun <;> cases hrun
  · obtain ⟨⟨hhost, hbusy, -⟩, h, hreach⟩ := hend _ hr
    have hf1 : step ((σ.put h).raise f) = .next (((σ.put h).raise f).failF1 f) := step_call hhost rfl
    exact completesAs_of_reaches hh (hreach.trans (.step hf1)) hbusy (step_call (by exact hhost) rfl) (quiet_fail σ h f)
  · obtain ⟨⟨hhost, hbusy, -⟩, h, hreach⟩ := hend _ hr
    exact completesAs_of_reaches hh hreach hbusy (step_call hhost rfl) (quiet_succeed σ h op)

end Sys2Proof.Machine
end

section
/-! SUPPORT. The machine against the primitives as written: the polls, a command, payloads, blocks and the data response. -/

namespace Sys2Proof.Machine

section
variable {a : Word} {σ : State}

/-! ## The polls -/

theorem State.afterBusyPoll_late {s : State} {r : Byte} {ready : State → State} {op : Op} {label : Nat}
    (h : limitReached s.params.notBusyLimit (s.pollCnt + 1) = true) (hr : r ≠ 0xFF#8) :
    s.afterBusyPoll r ready op label = State.raise { s with pollCnt := s.pollCnt + 1 } ⟨.timeoutNotBusy, op, label⟩ :=
  (if_neg (by simpa [isIdleByte] using hr)).trans (if_pos h)

theorem State.afterBusyPoll_waits {s : State} {r : Byte} {ready : State → State} {op : Op} {label : Nat}
    (h : limitReached s.params.notBusyLimit (s.pollCnt + 1) = false) (hr : r ≠ 0xFF#8) :
    s.afterBusyPoll r ready op label = { s with pollCnt := s.pollCnt + 1 } :=
  (if_neg (by simpa [isIdleByte] using hr)).trans (if_neg (by simpa using h))

/-- `wait_not_busy`'s loop, at either kind of wait. -/
theorem simulates_waitNotBusyLoop {p : Phase} {ready : State → State} {op : Op} {label : Nat}
    (hp : ∀ c, p ≠ .cmdFrame c 0) (hsends : ∀ s : State, s.phase = p → s.sends = some 0xFF#8)
    (hrec : ∀ r (s : State), s.phase = p → State.received r s = s.afterBusyPoll r ready op label) (n : Nat) :
    Simulates a σ (Seq.waitNotBusyLoop n) (fun s => { s with phase := p, pollCnt := σ.pollCnt })
      (fun ok s => if ok then ready s else s.raise ⟨.timeoutNotBusy, op, label⟩) := by
  induction n generalizing σ with
  | zero => rintro - h r ⟨⟩
  | succ n ih =>
    rw [Seq.waitNotBusyLoop]
    refine .xchg (entry' := fun r s => State.afterBusyPoll { s with phase := p, pollCnt := σ.pollCnt } r ready op label)
      (fun hl h r rest hlink => ⟨h, ?_⟩) fun r rest hlink => ?_
    · rw [step_exchange (by exact hl.1) (by exact hp) (hsends _ rfl) (by exact hlink), hrec r _ rfl]
      rfl
    · refine .count (fun _ => rfl) (.get ?_)
      dsimp only
      split_ifs with h1 h2
      · subst h1
        exact .pure fun _ h => ⟨{ h with phase := p, pollCnt := σ.pollCnt + 1 }, .of_eq rfl⟩
      · have hlim := (limitReached_iff _ _).mpr h2
        exact .pure fun _ h => ⟨{ h with pollCnt := σ.pollCnt + 1 },
          .of_eq (State.afterBusyPoll_late (by exact hlim) h1)⟩
      · have hlim := Bool.eq_false_iff.mpr (mt (limitReached_iff _ _).mp h2)
        exact .after (fun _ h => ⟨h, .of_eq (State.afterBusyPoll_waits (by exact hlim) h1)⟩) ih

/-- `wait_not_busy`, from a count of 0. -/
theorem simulates_waitNotBusy {p : Phase} {ready : State → State} {op : Op} {label : Nat}
    (hp : ∀ c, p ≠ .cmdFrame c 0) (hsends : ∀ s : State, s.phase = p → s.sends = some 0xFF#8)
    (hrec : ∀ r (s : State), s.phase = p → State.received r s = s.afterBusyPoll r ready op label) :
    Simulates a σ Seq.waitNotBusy (·.startPoll p)
      (fun ok s => if ok then ready s else s.raise ⟨.timeoutNotBusy, op, label⟩) :=
  .count (fun _ => rfl) (.get (simulates_waitNotBusyLoop hp hsends hrec _))

/-- The wait-not-busy before a command. -/
theorem simulates_commandWait (c : Cmd) : Simulates a σ Seq.waitNotBusy (·.startPoll (.cmdWait c))
    (fun ok s => if ok then s.startFrame c else s.raise ⟨.timeoutNotBusy, c.op, c.label⟩) :=
  simulates_waitNotBusy (by simp) (fun s hs => by simp only [State.sends, hs])
    (fun r s hs => by simp only [State.received, hs])

/-- The wait-not-busy after a write. -/
theorem simulates_programWait (w : ProgramWait) : Simulates a σ Seq.waitNotBusy (·.startPoll (.programWait w))
    (fun ok s => if ok then s.goto (.deselect w.op) else s.raise ⟨.timeoutNotBusy, w.op, w.label⟩) :=
  simulates_waitNotBusy (by simp) (fun s hs => by simp only [State.sends, hs])
    (fun r s hs => by simp only [State.received, hs])

/-- Where `poll_r1` leads: to the caller's check, or to the failure path. -/
def afterPollR1 (c : Cmd) : Option Byte → State → State
  | some r, s => s.checkR1 c r
  | none, s => s.raise ⟨.timeoutR1, c.op, c.label⟩

theorem State.afterR1Poll_r1 {s : State} {r : Byte} (hr : r.getLsbD 7 = false) (c : Cmd) :
    s.afterR1Poll c r = State.checkR1 { s with pollCnt := s.pollCnt + 1, r1 := r } c r :=
  if_pos (by rw [isR1, hr]; rfl)

theorem State.afterR1Poll_late {s : State} {r : Byte} (hlim : limitReached s.params.r1Limit (s.pollCnt + 1) = true)
    (hr : r.getLsbD 7 ≠ false) (c : Cmd) :
    s.afterR1Poll c r = State.raise { s with pollCnt := s.pollCnt + 1 } ⟨.timeoutR1, c.op, c.label⟩ :=
  (if_neg (by rw [isR1, Bool.eq_true_of_not_eq_false hr]; decide)).trans (if_pos hlim)

theorem State.afterR1Poll_waits {s : State} {r : Byte} (hlim : limitReached s.params.r1Limit (s.pollCnt + 1) = false)
    (hr : r.getLsbD 7 ≠ false) (c : Cmd) : s.afterR1Poll c r = { s with pollCnt := s.pollCnt + 1 } :=
  (if_neg (by rw [isR1, Bool.eq_true_of_not_eq_false hr]; decide)).trans (if_neg (by simpa using hlim))

theorem simulates_pollR1Loop (c : Cmd) (n : Nat) :
    Simulates a σ (Seq.pollR1Loop n) (fun s => { s with phase := .cmdPollR1 c, pollCnt := σ.pollCnt }) (afterPollR1 c) := by
  induction n generalizing σ with
  | zero => rintro - h r ⟨⟩
  | succ n ih =>
    rw [Seq.pollR1Loop]
    refine .xchg (entry' := fun r s => State.afterR1Poll { s with phase := .cmdPollR1 c, pollCnt := σ.pollCnt } c r)
      (fun hl h r rest hlink => ⟨h, step_exchange hl.1 (by simp) rfl hlink⟩) fun r rest hlink => ?_
    refine .count (fun _ => rfl) (.get ?_)
    dsimp only
    split_ifs with h1 h2
    · refine .change id (fun _ h => ⟨{ h with phase := .cmdPollR1 c, pollCnt := σ.pollCnt + 1 },
        .of_eq (State.afterR1Poll_r1 h1 c)⟩) (.pure (entry := (·.checkR1 c r)) fun _ h => ⟨h, .of_eq rfl⟩)
    · have hlim := (limitReached_iff _ _).mpr h2
      exact .pure fun _ h => ⟨{ h with pollCnt := σ.pollCnt + 1 }, .of_eq (State.afterR1Poll_late (by exact hlim) h1 c)⟩
    · have hlim := Bool.eq_false_iff.mpr (mt (limitReached_iff _ _).mp h2)
      exact .after (fun _ h => ⟨h, .of_eq (State.afterR1Poll_waits (by exact hlim) h1 c)⟩) ih

/-- `poll_r1`, from a count of 0. -/
theorem simulates_pollR1 (c : Cmd) :
    Simulates a σ Seq.pollR1 (·.startPoll (.cmdPollR1 c)) (afterPollR1 c) :=
  .count (fun _ => rfl) (.get (simulates_pollR1Loop c _))

/-- Where `wait_token` leads. -/
def afterWaitToken (b : BlockIn) : Seq.TokenOutcome → State → State
  | .ok, s => s.startBlock (.blockIn b)
  | .badToken, s => s.raise ⟨b.tokenFailure, b.op, b.label⟩
  | .timeout, s => s.raise ⟨.timeoutToken, b.op, b.label⟩

theorem State.afterTokenPoll_bad {s : State} {r : Byte} (hr : r ≠ 0xFF#8) (hbad : r ≠ 0xFE#8) (b : BlockIn) :
    s.afterTokenPoll b r =
      State.raise { s with pollCnt := s.pollCnt + 1, token := r } ⟨b.tokenFailure, b.op, b.label⟩ :=
  (if_neg (by simpa [isIdleByte] using hr)).trans (if_neg (by simpa [isStartToken] using hbad))

theorem State.afterTokenPoll_late {s : State} (hlim : limitReached s.params.tokenLimit (s.pollCnt + 1) = true)
    (b : BlockIn) :
    s.afterTokenPoll b 0xFF#8 = State.raise { s with pollCnt := s.pollCnt + 1 } ⟨.timeoutToken, b.op, b.label⟩ :=
  if_pos hlim

theorem State.afterTokenPoll_waits {s : State} (hlim : limitReached s.params.tokenLimit (s.pollCnt + 1) = false)
    (b : BlockIn) : s.afterTokenPoll b 0xFF#8 = { s with pollCnt := s.pollCnt + 1 } :=
  if_neg (by simpa using hlim)

theorem simulates_waitTokenLoop (b : BlockIn) (n : Nat) :
    Simulates a σ (Seq.waitTokenLoop n) (fun s => { s with phase := .tokenWait b, pollCnt := σ.pollCnt })
      (afterWaitToken b) := by
  induction n generalizing σ with
  | zero => rintro - h r ⟨⟩
  | succ n ih =>
    rw [Seq.waitTokenLoop]
    refine .xchg (entry' := fun r s => State.afterTokenPoll { s with phase := .tokenWait b, pollCnt := σ.pollCnt } b r)
      (fun hl h r rest hlink => ⟨h, step_exchange hl.1 (by simp) rfl hlink⟩) fun r rest hlink => ?_
    refine .count (fun _ => rfl) (.get ?_)
    dsimp only
    by_cases hr : r = 0xFF#8
    · subst hr
      rw [if_neg (by simp)]
      split_ifs with h2
      · have hlim := (limitReached_iff _ _).mpr h2
        exact .pure fun _ h => ⟨{ h with pollCnt := σ.pollCnt + 1 }, .of_eq (State.afterTokenPoll_late (by exact hlim) b)⟩
      · have hlim := Bool.eq_false_iff.mpr (mt (limitReached_iff _ _).mp h2)
        exact .after (fun _ h => ⟨h, .of_eq (State.afterTokenPoll_waits (by exact hlim) b)⟩) ih
    · rw [if_pos hr]
      by_cases hs : r = 0xFE#8
      · subst hs
        exact .change id (fun _ h => ⟨{ h with phase := .tokenWait b, pollCnt := σ.pollCnt + 1 }, .of_eq rfl⟩)
          (.pure (entry := (·.startBlock (.blockIn b))) fun _ h => ⟨h, .of_eq rfl⟩)
      · rw [if_neg hs]
        exact .change id (fun _ h => ⟨{ h with pollCnt := σ.pollCnt + 1 }, .of_eq (State.afterTokenPoll_bad hr hs b)⟩)
          (.pure (entry := (·.raise ⟨b.tokenFailure, b.op, b.label⟩)) fun _ h => ⟨h, .of_eq rfl⟩)

/-- `wait_token`, from a count of 0. -/
theorem simulates_waitToken (b : BlockIn) :
    Simulates a σ Seq.waitToken (·.startPoll (.tokenWait b)) (afterWaitToken b) :=
  .count (fun _ => rfl) (.get (simulates_waitTokenLoop b _))

/-! ## Bytes that are only sent -/

/-- What sending bytes comes to: as many replies are used up. -/
theorem sendBytes_eq_some {bs : List Byte} {r : Except Raised Unit × State} (h : Seq.sendBytes bs σ = some r) :
    ∃ rs rest, rs.length = bs.length ∧ σ.linkIn = bytes rs ++ rest ∧
      r = (.ok (), { σ with linkIn := rest, trace := σ.trace ++ List.zipWith .x bs rs }) := by
  induction bs generalizing σ with
  | nil => cases h; exact ⟨[], σ.linkIn, rfl, rfl, by simp⟩
  | cons b bs ih =>
    rw [Seq.sendBytes, Seq.bind_apply] at h
    rcases hl : σ.linkIn with _ | ⟨r0 | _, rest0⟩ <;> simp only [Seq.xchg, hl] at h
    · cases h
    · rw [State.exchanged_cons hl] at h
      obtain ⟨rs, rest, hlen, hlink, rfl⟩ := ih h
      exact ⟨r0 :: rs, rest, by simp [hlen], by simpa using hlink, by simp⟩
    · cases h

/-- Bytes that are only sent, where the machine sends the same. -/
theorem Simulates.sendBytes {bs : List Byte} {entry : State → State} {exit : Unit → State → State}
    (hrun : Live a σ → ∀ h rs rest, rs.length = bs.length → σ.linkIn = bytes rs ++ rest → ∃ h', Reaches (entry (σ.put h))
      (exit () (({ σ with linkIn := rest, trace := σ.trace ++ List.zipWith .x bs rs } : State).put h'))) :
    Simulates a σ (Seq.sendBytes bs) entry exit := by
  intro hl h r hr
  obtain ⟨rs, rest, hlen, hlink, rfl⟩ := sendBytes_eq_some hr
  exact ⟨hl, hrun hl h rs rest hlen hlink⟩

/-! ## A command -/

/-- The bytes of a frame as the sequence writes them are those of the frame the engine builds. -/
theorem sendFrame_eq (c : Cmd) (argl : Word) :
    Seq.sendFrame c.index (c.argument argl) = Seq.sendBytes ((List.finRange 6).map (frameByte (c.frame argl))) := by
  have hbyte (i : Nat) : (c.argument argl).extractLsb' i 8 = (c.argument argl >>> i).setWidth 8 := rfl
  rw [Cmd.frameBytes, frameHead_eq, hbyte, hbyte, hbyte, hbyte, BitVec.ushiftRight_zero]
  rfl

/-- What follows a frame: CMD12's stuff byte, or the R1 poll. -/
def State.afterFrame (s : State) (c : Cmd) : State :=
  if c = .cmd12 then s.goto .cmdStuff else s.startPoll (.cmdPollR1 c)

theorem simulates_sendFrame (c : Cmd) :
    Simulates a σ (Seq.sendFrame c.index (c.argument a)) (·.startFrame c) (fun _ s => s.afterFrame c) := by
  rw [sendFrame_eq]
  refine .sendBytes fun hl h rs rest hlen hlink => ?_
  have hrun := runs_frame (s := (σ.put h).startFrame c) hl.1 rfl rfl (by simpa using hlen) hlink
  obtain rfl := hl.2.2
  refine ⟨{ h with pollCnt := h.pollCnt, txFrame := 0#48 }, 6, hrun.trans (congrArg _ ?_)⟩
  unfold State.afterFrame
  split_ifs <;> rfl

theorem Cmd.index_eq_iff (c : Cmd) : c.index = 12#6 ↔ c = .cmd12 := by cases c <;> decide

/-- A command's end: the R1 poll. -/
theorem simulates_commandEnd (c : Cmd) : Simulates a σ
    (Seq.pollR1 >>= fun o => match o with
      | none => throw ⟨.timeoutR1, c.op, c.label⟩
      | some r => pure r)
    (·.startPoll (.cmdPollR1 c)) (fun r s => s.checkR1 c r) :=
  .bind (simulates_pollR1 c) fun o _ _ => match o with
    | none => .throw fun _ h => ⟨h, .refl _⟩
    | some _ => .pure fun _ h => ⟨h, .refl _⟩

/-- `command`, up to the caller's check of R1. -/
theorem simulates_command (c : Cmd) :
    Simulates a σ (Seq.command c.op c.label c.index (c.argument a)) (·.startCommand c) (fun r s => s.checkR1 c r) := by
  unfold Seq.command
  by_cases hc : c = .cmd12
  · subst hc
    refine .change (entry' := (·.startFrame .cmd12)) id (fun _ h => ⟨h, .refl _⟩) (.bind (simulates_sendFrame .cmd12)
      fun _ σ' _ => .xchg (entry' := fun _ s => s.startPoll (.cmdPollR1 .cmd12))
        (fun hl h r rest hlink => ⟨h, step_stuff hl.1 rfl hlink⟩) fun r rest _ => simulates_commandEnd .cmd12)
  · have hidx : c.index ≠ 12#6 := mt c.index_eq_iff.mp hc
    rw [if_pos hidx]
    refine .change (entry' := (·.startPoll (.cmdWait c))) id (fun _ h => ⟨h, .of_eq (if_neg hc)⟩)
      (.bind (simulates_commandWait c) fun ok σ' _ => .require_ok (.bind (simulates_sendFrame c) fun _ _ _ => ?_))
    rw [if_neg hidx]
    exact .after (entry' := (·.startPoll (.cmdPollR1 c))) (fun _ h => ⟨h, .of_eq (if_neg hc)⟩) (simulates_commandEnd c)

end

end Sys2Proof.Machine
end

section
/-! SUPPORT. The machine against the operations as written. -/

namespace Sys2Proof.Machine

section
variable {α : Type} {a : Word} {σ : State}

/-! ## Select, the check of R1, deselect -/

theorem Simulates.select {k : Unit → Seq.Proc α} {op : Op} {exit : α → State → State}
    (hk : Simulates a σ.csAssert (k ()) (·.afterSelect op) exit) :
    Simulates a σ (modify State.csAssert >>= k) (·.goto (.select op)) exit :=
  .change id (fun hl h => ⟨{ h with phase := .select op }, .step (step_call (by exact hl.1) rfl)⟩) hk

theorem simulates_deselect (op : Op) :
    Simulates a σ (modify State.csDeassert) (·.goto (.deselect op)) (fun _ s => s.goto (.complete op)) := by
  rintro hl h r ⟨⟩
  exact ⟨hl, h, .step (step_call hl.1 rfl)⟩

/-- The check of a command's R1, and what follows where it is the required one. -/
theorem Simulates.requireR1 {k : Unit → Seq.Proc α} {c : Cmd} {r : Byte} {exit : α → State → State} (hc : c ≠ .acmd41)
    (hk : Simulates a σ (k ()) (·.afterCommand c) exit) :
    Simulates a σ (if r ≠ c.requiredR1 then MonadExcept.throw ⟨c.failure, c.op, c.label⟩ >>= k else k ())
      (·.checkR1 c r) exit := by
  by_cases hr : r = c.requiredR1
  · subst hr
    rw [if_neg (by simp)]
    exact .after (fun _ h => ⟨h, .of_eq (State.checkR1_required _ hc)⟩) hk
  · exact .require (fun _ _ h => ⟨h, .of_eq (State.checkR1_other _ hc hr)⟩) fun h => absurd h (by simpa using hr)

/-! ## The operations of one command -/

theorem simulates_readBegin :
    Simulates a σ Seq.readBegin (·.goto (.select .readBegin)) (fun _ s => s.goto (.complete .readBegin)) := by
  refine .of_live fun hl => ?_
  obtain rfl := hl.2.2
  exact .select (.get (.bind (simulates_command .cmd18) fun _ _ _ =>
    .requireR1 (c := .cmd18) (by decide) (simulates_deselect .readBegin)))

theorem simulates_writeBegin :
    Simulates a σ Seq.writeBegin (·.goto (.select .writeBegin)) (fun _ s => s.goto (.complete .writeBegin)) := by
  refine .of_live fun hl => ?_
  obtain rfl := hl.2.2
  exact .select (.get (.bind (simulates_command .cmd25) fun _ _ _ =>
    .requireR1 (c := .cmd25) (by decide) (simulates_deselect .writeBegin)))

theorem simulates_readEnd :
    Simulates a σ Seq.readEnd (·.goto (.select .readEnd)) (fun _ s => s.goto (.complete .readEnd)) :=
  .select (.bind (simulates_command .cmd12) fun _ _ _ =>
    .requireR1 (c := .cmd12) (by decide) (simulates_deselect .readEnd))

end

/-- Settles O36. -/
theorem readBeginRunsAsWritten : Obligations.ReadBeginRunsAsWritten :=
  ⟨rfl, runsAsWritten_of_simulates fun _ _ => simulates_readBegin⟩

/-- Settles O38. -/
theorem readEndRunsAsWritten : Obligations.ReadEndRunsAsWritten :=
  ⟨rfl, runsAsWritten_of_simulates fun _ _ => simulates_readEnd⟩

/-- Settles O39. -/
theorem writeBeginRunsAsWritten : Obligations.WriteBeginRunsAsWritten :=
  ⟨rfl, runsAsWritten_of_simulates fun _ _ => simulates_writeBegin⟩

end Sys2Proof.Machine
end

section
/-! SUPPORT. The machine against the primitives of payloads and blocks as written. -/

namespace Sys2Proof.Machine

/-! ## Payloads -/

/-- What an exchange and what follows it come to. -/
theorem xchg_bind_eq_some {α : Type} {σ : State} {t : Byte} {k : Byte → Seq.Proc α} {r : Except Raised α × State}
    (h : (Seq.xchg t >>= k) σ = some r) : ∃ b rest, σ.linkIn = .byte b :: rest ∧
      k b { σ with linkIn := rest, trace := σ.trace ++ [.x t b] } = some r := by
  rw [Seq.bind_apply] at h
  rcases hl : σ.linkIn with _ | ⟨b | _, rest⟩ <;> simp only [Seq.xchg, hl] at h
  · cases h
  · rw [State.exchanged_cons hl] at h
    exact ⟨b, rest, rfl, h⟩
  · cases h

/-- What reading a payload comes to. -/
theorem readPayload4_eq_some {σ : State} {r : Except Raised Unit × State} (h : Seq.readPayload4 σ = some r) :
    ∃ r0 r1 r2 r3 rest, σ.linkIn = bytes [r0, r1, r2, r3] ++ rest ∧
      r = (.ok (), { σ with
        resp := #v[r0, r1, r2, r3], linkIn := rest, trace := σ.trace ++ polled [r0, r1, r2, r3] }) := by
  simp only [Seq.readPayload4, List.forIn_cons, List.forIn_nil, bind_assoc, pure_bind] at h
  obtain ⟨r0, rest0, hl0, h⟩ := xchg_bind_eq_some h
  obtain ⟨r1, rest1, hl1, h⟩ := xchg_bind_eq_some h
  obtain ⟨r2, rest2, hl2, h⟩ := xchg_bind_eq_some h
  obtain ⟨r3, rest3, hl3, h⟩ := xchg_bind_eq_some h
  obtain rfl : rest0 = .byte r1 :: rest1 := hl1
  obtain rfl : rest1 = .byte r2 :: rest2 := hl2
  obtain rfl : rest2 = .byte r3 :: rest3 := hl3
  have hresp := setResp_all σ.resp r0 r1 r2 r3
  simp only [setResp] at hresp
  cases h
  exact ⟨r0, r1, r2, r3, rest3, hl0, by simp [hresp]⟩

section
variable {a : Word} {σ : State}

/-- `read_payload4`, up to its check. -/
theorem simulates_readPayload4 (p : Payload) :
    Simulates a σ Seq.readPayload4 (·.startBytes (.payload p)) (fun _ s => s.checkPayload p) := by
  intro hl h r hr
  obtain ⟨r0, r1, r2, r3, rest, hlink, rfl⟩ := readPayload4_eq_some hr
  exact ⟨hl, { h with phase := .payload p, byteCnt := 4 }, 4,
    runs_payload (s := (σ.put h).startBytes (.payload p)) hl.1 rfl rfl hlink⟩

/-! ## A block that comes in -/

/-- `dest[i] <- r`, by destination. -/
def BlockIn.dest (b : BlockIn) (i : Nat) (r : Byte) (s : State) : State :=
  match b with
  | .csd => { s with csd := s.csd.setIfInBounds i r }
  | .single | .stream => s.setBuf i r

/-- `BYTE_CNT` bytes of a block have come in, and the running CRC is theirs. -/
def State.atDataIn (s : State) (b : BlockIn) (i : Nat) : State :=
  { s with
    phase := if i < b.size then .blockIn b else .blockInCrcHi b, byteCnt := i
    crc16Acc := if s.params.dataCrcEnable = true then crc16 (Machine.received s b i) else s.crc16Acc }

/-- What the sequence does with a data byte: BUF and CSD alone are written, and read nothing but themselves. -/
theorem BlockIn.dest_eq (b : BlockIn) (i : Nat) (r : Byte) {s u : State} (hbuf : u.buf = s.buf) (hcsd : u.csd = s.csd) :
    b.dest i r u = { u with buf := (b.dest i r s).buf, csd := (b.dest i r s).csd } := by
  cases b <;> simp only [BlockIn.dest, State.setBuf, hbuf, hcsd, apply_ite State.buf, apply_ite State.csd, ite_self]
  all_goals split_ifs <;> simp [← hbuf, ← hcsd]

theorem BlockIn.dest_put (b : BlockIn) (i : Nat) (r : Byte) (s : State) (h : Hidden) :
    (b.dest i r s).put h = b.dest i r (s.put h) := by
  rw [b.dest_eq i r (s := s) (u := s.put h) rfl rfl, b.dest_eq i r (s := s) (u := s) rfl rfl]
  rfl

theorem BlockIn.dest_live {a : Word} {b : BlockIn} {i : Nat} {r : Byte} {s : State} (h : Live a s) :
    Live a (b.dest i r s) := by
  rw [b.dest_eq i r (s := s) (u := s) rfl rfl]
  exact h

theorem received_dest {b : BlockIn} {i : Nat} (hi : i < b.size) (r : Byte) (s : State) :
    received (b.dest i r s) b (i + 1) = received s b i ++ [r] := by
  have hstore : State.storeByte { s with byteCnt := i } b r = b.dest i r { s with byteCnt := i } := by cases b <;> rfl
  have := received_storeByte (s := { s with byteCnt := i }) hi r
  rw [hstore, b.dest_eq i r (s := s) (u := { s with byteCnt := i }) rfl rfl] at this
  rw [b.dest_eq i r (s := s) (u := s) rfl rfl]
  exact this

/-- Storing a data byte is what the sequence does with it. -/
theorem State.dataIn_atDataIn (s : State) {b : BlockIn} {i : Nat} (hi : i < b.size) (r : Byte) (rest : List LinkReply) :
    (s.atDataIn b i).dataIn b r rest =
      State.atDataIn (b.dest i r { s with linkIn := rest, trace := s.trace ++ [.x 0xFF#8 r] }) b (i + 1) := by
  have hstore : (s.atDataIn b i).storeByte b r = b.dest i r (s.atDataIn b i) := by cases b <;> rfl
  have hcrc : crc16 (Machine.received (b.dest i r s) b (i + 1)) = crc16Byte (crc16 (Machine.received s b i)) r := by
    rw [received_dest hi, crc16_append_byte]
  rw [b.dest_eq i r (s := s) (u := s) rfl rfl] at hcrc
  rw [State.dataIn, hstore, b.dest_eq i r (s := s) (u := s.atDataIn b i) rfl rfl,
    b.dest_eq i r (s := s) (u := { s with linkIn := rest, trace := s.trace ++ [.x 0xFF#8 r] }) rfl rfl]
  by_cases he : s.params.dataCrcEnable = true
  · simp only [State.atDataIn, he, if_true, ← hcrc]
    rfl
  · simp only [State.atDataIn, he, if_false, Bool.false_eq_true]

theorem simulates_readData (b : BlockIn) {i n : Nat} (hsize : i + n = b.size) :
    Simulates a σ (Seq.readData b.dest i n) (·.atDataIn b i) (fun _ s => s.atDataIn b b.size) := by
  induction n generalizing i σ with
  | zero =>
    obtain rfl : i = b.size := hsize
    exact .pure fun _ h => ⟨h, .refl _⟩
  | succ n ih =>
    have hi : i < b.size := by omega
    refine .xchg (entry' := fun r s => State.atDataIn (b.dest i r s) b (i + 1)) (fun hl h r rest hlink => ⟨h, ?_⟩)
      fun r rest _ => .change ?_ (fun _ h => ⟨h, .of_eq ?_⟩) (ih (by omega))
    · rw [step_dataIn (by exact hl.1) (by exact if_pos hi) (by exact hlink), State.dataIn_atDataIn _ hi]
      rfl
    · exact BlockIn.dest_live
    · rw [BlockIn.dest_put]

/-- What the sequence compares with the CRC bytes is what has come in. -/
theorem received_size (b : BlockIn) (s : State) :
    received s b b.size = match b with
      | .csd => s.csd.toList
      | .single | .stream => Seq.bufList s := by
  cases b
  case csd => exact List.take_of_length_le (by simp [BlockIn.size, Config.csdSize])
  all_goals rfl

/-- The first CRC byte is kept, the block and its running CRC stand. -/
def State.atCrcLo (s : State) (b : BlockIn) (hi : Byte) : State :=
  { s.atDataIn b b.size with phase := .blockInCrcLo b, byteCnt := b.size + 1, crcHi := hi }

/-- The check of both CRC bytes. -/
theorem simulates_crcCheck (b : BlockIn) (hi lo : Byte) {contents : State → List Byte}
    (hcontents : ∀ s, contents s = received s b b.size) :
    Simulates a σ (if σ.params.dataCrcEnable = true ∧ crc16 (contents σ) ≠ hi ++ lo then
        throw ⟨b.crcFailure, b.op, b.label⟩ else pure ())
      (fun s => State.received lo (s.atCrcLo b hi)) (fun _ s => s.blockReceived b) := by
  have hcond (h : Hidden) : (((σ.put h).atCrcLo b hi).params.dataCrcEnable = true ∧
      ((σ.put h).atCrcLo b hi).crc16Acc ≠ ((σ.put h).atCrcLo b hi).crcHi ++ lo) ↔
      σ.params.dataCrcEnable = true ∧ crc16 (contents σ) ≠ hi ++ lo := by
    refine and_congr_right fun he => ?_
    rw [hcontents, show ((σ.put h).atCrcLo b hi).crc16Acc = crc16 (received σ b b.size) from if_pos he]
    rfl
  split_ifs with hwrong
  · exact .throw fun _ h => ⟨{ ((σ.put h).atCrcLo b hi).hidden with crcHi := 0#8 },
      .of_eq ((State.received_crcLo rfl).trans (if_pos ((hcond h).mpr hwrong)))⟩
  · exact .pure fun _ h => ⟨{ ((σ.put h).atCrcLo b hi).hidden with crcHi := 0#8 },
      .of_eq ((State.received_crcLo rfl).trans (if_neg (mt (hcond h).mp hwrong)))⟩

/-- `read_block`, from its token wait to the caller's next step. -/
theorem simulates_readBlock (b : BlockIn) {contents : State → List Byte}
    (hcontents : ∀ s, contents s = received s b b.size) :
    Simulates a σ (Seq.readBlock b.op b.label b.dest contents b.size b.tokenFailure b.crcFailure)
      (·.startPoll (.tokenWait b)) (fun _ s => s.blockReceived b) := by
  unfold Seq.readBlock
  refine .bind (simulates_waitToken b) fun o σ' _ => ?_
  cases o with
  | timeout => exact .bind (mid := fun _ s => s) (.throw fun _ h => ⟨h, .refl _⟩) (by rintro x σ' ⟨⟩)
  | badToken => exact .bind (mid := fun _ s => s) (.throw fun _ h => ⟨h, .refl _⟩) (by rintro x σ' ⟨⟩)
  | ok =>
    refine .bind (.after (entry' := (·.atDataIn b 0)) (fun _ h => ⟨h, .of_eq ?_⟩) (simulates_readData b (by omega)))
      fun _ σ' _ => .xchg (entry' := fun hi s => s.atCrcLo b hi) (fun hl h r rest hlink => ⟨h, ?_⟩) fun hi rest _ =>
        .xchg (entry' := fun lo s => State.received lo (s.atCrcLo b hi)) (fun hl h r rest hlink => ⟨h, ?_⟩)
          fun lo rest _ => .get ?_
    · cases b <;> rfl
    · rw [step_crcHiIn (by exact hl.1) (by exact if_neg (Nat.lt_irrefl _)) (by exact hlink)]
      rfl
    · exact step_exchange (by exact hl.1) (by simp [State.atCrcLo]) rfl hlink
    · exact simulates_crcCheck b hi lo hcontents

/-! ## A block that goes out -/

/-- `send_block`: the run of a sent block, with the bytes as the sequence writes them. -/
theorem simulates_sendBlock (b : BlockOut) :
    Simulates a σ (Seq.sendBlock b.token) (·.goto (.blockOutToken b)) (fun _ s => s.goto (.dataResponse b)) := by
  refine .get (.sendBytes fun hl h rs rest hlen hlink => ?_)
  obtain ⟨t, hrun, ht⟩ := writeBlockCarriesBuf ((σ.put h).goto (.blockOutToken b)) b rs rest hl.1 rfl
    (by simpa [Seq.bufList] using hlen) hlink
  refine ⟨t.hidden, 515, hrun.trans (congrArg _ (ht.trans ?_))⟩
  rw [ht]
  rfl

/-- `read_data_response`, judged. -/
theorem simulates_readDataResponse (b : BlockOut) :
    Simulates a σ Seq.readDataResponse (·.goto (.dataResponse b)) (fun ok s =>
      if ok then s.startPoll (.programWait b.programWait) else s.raise ⟨b.failure, b.op, b.label + 1⟩) := by
  refine .xchg (entry' := fun r s => State.afterDataResponse { s with phase := .dataResponse b } b r)
    (fun hl h r rest hlink => ⟨h, step_dataResponse hl.1 rfl hlink⟩) fun r rest _ =>
      .change (entry' := fun s => if isAccepted r then s.startPoll (.programWait b.programWait)
        else s.raise ⟨b.failure, b.op, b.label + 1⟩) id (fun _ h => ⟨h, .of_eq rfl⟩) (.pure fun _ h => ⟨h, .of_eq rfl⟩)

end

end Sys2Proof.Machine
end

section
/-! SUPPORT. The machine against the operations with payloads and blocks as written. -/

namespace Sys2Proof.Machine

section
variable {a : Word} {σ : State}

theorem simulates_writeEnd :
    Simulates a σ Seq.writeEnd (·.goto (.select .writeEnd)) (fun _ s => s.goto (.complete .writeEnd)) :=
  .select (.xchg (entry' := fun _ s => s.goto .stopDiscard)
    (fun hl h r rest hlink => ⟨h, step_exchange (by exact hl.1) (by simp [State.afterSelect]) rfl hlink⟩) fun _ _ _ =>
      .xchg (entry' := fun _ s => s.startPoll (.programWait .writeEnd))
        (fun hl h r rest hlink => ⟨h, step_exchange (by exact hl.1) (by simp) rfl hlink⟩) fun _ _ _ =>
          .bind (simulates_programWait .writeEnd) fun _ _ _ => .require_ok (simulates_deselect .writeEnd))

theorem simulates_readData_op :
    Simulates a σ Seq.readDataOp (·.goto (.select .readData)) (fun _ s => s.goto (.complete .readData)) :=
  .select (.bind (simulates_readBlock .stream fun s => (received_size .stream s).symm) fun _ _ _ =>
    simulates_deselect .readData)

theorem simulates_readSingleBlock :
    Simulates a σ Seq.readSingleBlock (·.goto (.select .readSingleBlock))
      (fun _ s => s.goto (.complete .readSingleBlock)) := by
  refine .of_live fun hl => ?_
  obtain rfl := hl.2.2
  exact .select (.get (.bind (simulates_command .cmd17) fun _ _ _ => .requireR1 (c := .cmd17) (by decide)
    (.bind (simulates_readBlock .single fun s => (received_size .single s).symm) fun _ _ _ =>
      simulates_deselect .readSingleBlock)))

theorem simulates_writeSingleBlock :
    Simulates a σ Seq.writeSingleBlock (·.goto (.select .writeSingleBlock))
      (fun _ s => s.goto (.complete .writeSingleBlock)) := by
  refine .of_live fun hl => ?_
  obtain rfl := hl.2.2
  exact .select (.get (.bind (simulates_command .cmd24) fun _ _ _ => .requireR1 (c := .cmd24) (by decide)
    (.bind (simulates_sendBlock .single) fun _ _ _ => .bind (simulates_readDataResponse .single) fun _ _ _ =>
      .require_ok (.bind (simulates_programWait .afterSingle) fun _ _ _ =>
        .require_ok (simulates_deselect .writeSingleBlock)))))

theorem simulates_writeData :
    Simulates a σ Seq.writeData (·.goto (.select .writeData)) (fun _ s => s.goto (.complete .writeData)) :=
  .select (.bind (simulates_sendBlock .stream) fun _ _ _ => .bind (simulates_readDataResponse .stream) fun _ _ _ =>
    .require_ok (.bind (simulates_programWait .afterStream) fun _ _ _ => .require_ok (simulates_deselect .writeData)))

end

/-- Settles O34. -/
theorem readSingleBlockRunsAsWritten : Obligations.ReadSingleBlockRunsAsWritten :=
  ⟨rfl, runsAsWritten_of_simulates fun _ _ => simulates_readSingleBlock⟩

/-- Settles O35. -/
theorem writeSingleBlockRunsAsWritten : Obligations.WriteSingleBlockRunsAsWritten :=
  ⟨rfl, runsAsWritten_of_simulates fun _ _ => simulates_writeSingleBlock⟩

/-- Settles O37. -/
theorem readDataRunsAsWritten : Obligations.ReadDataRunsAsWritten :=
  ⟨rfl, runsAsWritten_of_simulates fun _ _ => simulates_readData_op⟩

/-- Settles O40. -/
theorem writeDataRunsAsWritten : Obligations.WriteDataRunsAsWritten :=
  ⟨rfl, runsAsWritten_of_simulates fun _ _ => simulates_writeData⟩

/-- Settles O41. -/
theorem writeEndRunsAsWritten : Obligations.WriteEndRunsAsWritten :=
  ⟨rfl, runsAsWritten_of_simulates fun _ _ => simulates_writeEnd⟩

end Sys2Proof.Machine
end

section
/-! SUPPORT. The machine against GET_BLOCKS_NUMBER and INIT as written. -/

namespace Sys2Proof.Machine

/-- The block count as the sequence computes it, over the naturals. -/
theorem blockCountOf_eq_ofNat (csd : Vector Byte 16) :
    blockCountOf csd = BitVec.ofNat 33
      ((((csd[7] &&& 0x3F#8).toNat * 2 ^ 16 + csd[8].toNat * 2 ^ 8 + csd[9].toNat) + 1) * 1024) := by
  have hc : ((csd[7] &&& 0x3F#8).toNat <<< 16) ||| (csd[8].toNat <<< 8) ||| csd[9].toNat =
      (csd[7] &&& 0x3F#8).toNat * 2 ^ 16 + csd[8].toNat * 2 ^ 8 + csd[9].toNat := by
    have h8 : csd[8].toNat <<< 8 < 2 ^ 16 := by have := csd[8].isLt; rw [Nat.shiftLeft_eq]; omega
    have h9 : csd[9].toNat < 2 ^ 8 := csd[9].isLt
    rw [← Nat.shiftLeft_add_eq_or_of_lt h8, Nat.shiftLeft_eq, Nat.shiftLeft_eq]
    rw [show (csd[7] &&& 0x3F#8).toNat * 2 ^ 16 + csd[8].toNat * 2 ^ 8 =
      ((csd[7] &&& 0x3F#8).toNat * 2 ^ 8 + csd[8].toNat) <<< 8 by rw [Nat.shiftLeft_eq]; omega,
      ← Nat.shiftLeft_add_eq_or_of_lt h9]
  have hcount : (blockCountOf csd).toNat = _ := (blockCountArithmetic csd).2.2.2
  rw [← hc, ← hcount, BitVec.ofNat_toNat, BitVec.setWidth_eq]

section
variable {a : Word} {σ : State}

theorem simulates_getBlocksNumber :
    Simulates a σ Seq.getBlocksNumber (·.goto (.select .getBlocksNumber))
      (fun _ s => s.goto (.complete .getBlocksNumber)) := by
  refine .select (.bind (simulates_command .cmd9) fun _ _ _ => .requireR1 (c := .cmd9) (by decide)
    (.bind (simulates_readBlock .csd fun s => (received_size .csd s).symm) fun _ σ' _ => .get (.require
      (fun hv _ h => ⟨h, .of_eq (if_neg ?_)⟩) fun hv => .change (entry' := (·.goto (.deselect .getBlocksNumber))) id
        (fun _ h => ⟨h, .of_eq ?_⟩) (simulates_deselect .getBlocksNumber))))
  · have hv' : ¬csdVersionAccepted σ'.csd = true := by simpa [csdVersionAccepted] using hv
    exact hv'
  · have hv' : csdVersionAccepted σ'.csd = true := by simpa [csdVersionAccepted] using hv
    refine (if_pos (by exact hv')).trans ?_
    rw [blockCountOf_eq_ofNat]
    rfl

/-! ## INIT -/

theorem zipWith_replicate_length {α β γ : Type} (f : α → β → γ) (x : α) (l : List β) :
    List.zipWith f (List.replicate l.length x) l = l.map (f x) := by
  induction l with
  | nil => rfl
  | cons b bs ih => rw [List.length_cons, List.replicate_succ, List.zipWith_cons_cons, ih, List.map_cons]

/-- INIT's deselect and dummy bytes, up to S3. -/
theorem simulates_initDummyBytes : Simulates a σ
    (Seq.sendBytes (List.replicate σ.params.initDummyBytes 0xFF#8)) State.afterInitDeselect
    (fun _ s => s.goto (.select .init)) := by
  refine .sendBytes fun hl h rs rest hlen hlink => ⟨h, ?_⟩
  rw [List.length_replicate] at hlen
  rw [← hlen, zipWith_replicate_length]
  by_cases h0 : σ.params.initDummyBytes = 0
  · obtain rfl : rs = [] := List.eq_nil_of_length_eq_zero (hlen.trans h0)
    obtain rfl : rest = σ.linkIn := hlink.symm
    exact .of_eq ((if_pos (by exact h0)).trans (by simp))
  · refine ⟨rs.length, ?_⟩
    rw [State.afterInitDeselect, if_neg (by exact h0), runs_dummy (k := 0) (by exact hl.1) rfl
      (by exact (Nat.zero_add _).trans hlen) (by rintro rfl; exact h0 hlen.symm) (by exact hlink)]
    rfl

/-- ACMD41's check of R1, its round counted already. -/
def State.acmd41Checked (s : State) (r : Byte) : State :=
  if r = 0x00#8 then s.startCommand .cmd58
  else if r ≠ 0x01#8 then s.raise ⟨.initAcmd41, .init, 7⟩
  else if s.params.acmd41Limit ≠ 0 ∧ s.roundCnt = s.params.acmd41Limit then s.raise ⟨.timeoutAcmd41, .init, 7⟩
  else s.startCommand .cmd55

theorem State.checkR1_acmd41_eq (s : State) (r : Byte) :
    s.checkR1 .acmd41 r = State.acmd41Checked { s with roundCnt := s.roundCnt + 1 } r := by
  simp only [State.checkR1, if_true, State.afterAcmd41, State.acmd41Checked, limitReached_iff]
  rfl

/-- INIT's ACMD41 loop. -/
theorem simulates_acmd41Loop (n : Nat) :
    Simulates a σ (Seq.acmd41Loop n) (·.startCommand .cmd55) (fun _ s => s.startCommand .cmd58) := by
  induction n generalizing σ with
  | zero => rintro - h r ⟨⟩
  | succ n ih =>
    rw [Seq.acmd41Loop]
    refine .bind (simulates_command .cmd55) fun _ _ _ => .requireR1 (c := .cmd55) (by decide)
      (.bind (simulates_command .acmd41) fun r σ' _ => .change (entry' := (State.acmd41Checked · r)) id
        (fun _ h => ⟨h, .of_eq (State.checkR1_acmd41_eq _ r)⟩) (.get ?_))
    by_cases h0 : r = 0x00#8
    · rw [if_pos h0]
      exact .pure fun _ h => ⟨h, .of_eq (if_pos h0)⟩
    · rw [if_neg h0]
      refine .require (fun h1 _ h => ⟨h, .of_eq ((if_neg h0).trans (if_pos h1))⟩) fun h1 =>
        .require (fun hl _ h => ⟨h, .of_eq ((if_neg h0).trans ((if_neg h1).trans (if_pos hl)))⟩) fun hl =>
          .after (entry' := (·.startCommand .cmd55))
            (fun _ h => ⟨h, .of_eq ((if_neg h0).trans ((if_neg h1).trans (if_neg hl)))⟩) ih

/-- The check of R7, before the ACMD41 loop. -/
theorem Simulates.requireR7 {k : Unit → Seq.Proc Unit} {exit : Unit → State → State}
    (hk : Simulates a σ (k ()) (fun s => State.startCommand { s with roundCnt := 0 } .cmd55) exit) :
    Simulates a σ (if ¬(σ.resp[3] = 0xAA#8 ∧ σ.resp[2].getLsbD 0 = true) then
      MonadExcept.throw ⟨.initCmd8R7, .init, 6⟩ >>= k else k ()) (·.checkPayload .r7) exit := by
  have hiff : r7Accepted σ.resp = true ↔ σ.resp[3] = 0xAA#8 ∧ σ.resp[2].getLsbD 0 = true := by simp [r7Accepted]
  exact .require (fun hr _ h => ⟨h, .of_eq (if_neg (mt hiff.mp hr))⟩) fun hr =>
    .after (entry' := fun s => State.startCommand { s with roundCnt := 0 } .cmd55)
      (fun _ h => ⟨h, .of_eq (if_pos (hiff.mpr (not_not.mp hr)))⟩) hk

/-- The check of the OCR. -/
theorem Simulates.requireOcr {k : Unit → Seq.Proc Unit} {exit : Unit → State → State}
    (hk : Simulates a σ (k ()) (·.goto (.deselect .init)) exit) :
    Simulates a σ (if σ.resp[0] &&& 0xC0#8 ≠ 0xC0#8 then MonadExcept.throw ⟨.initOcr, .init, 9⟩ >>= k else k ())
      (·.checkPayload .ocr) exit := by
  have hiff : ocrAccepted σ.resp = true ↔ σ.resp[0] &&& 0xC0#8 = 0xC0#8 := by simp [ocrAccepted]
  exact .require (fun ho _ h => ⟨h, .of_eq (if_neg (mt hiff.mp ho))⟩) fun ho =>
    .after (entry' := (·.goto (.deselect .init)))
      (fun _ h => ⟨h, .of_eq (if_pos (hiff.mpr (not_not.mp ho)))⟩) hk

theorem simulates_init : Simulates a σ Seq.init (·.goto .initDeselect) (fun _ s => s.goto (.complete .init)) :=
  .change (entry' := State.afterInitDeselect) id
    (fun hl h => ⟨{ h with phase := .initDeselect }, .step (step_call (by exact hl.1) rfl)⟩) <| .get <|
  .bind simulates_initDummyBytes fun _ _ _ => .select <|
  .bind (simulates_command .cmd0) fun _ _ _ => .requireR1 (c := .cmd0) (by decide) <|
  .bind (simulates_command .cmd8) fun _ _ _ => .requireR1 (c := .cmd8) (by decide) <|
  .bind (simulates_readPayload4 .r7) fun _ _ _ => .get <| .requireR7 <|
  .change (entry' := (·.startCommand .cmd55)) id (fun _ h => ⟨h, .of_eq rfl⟩) <| .get <|
  .bind (simulates_acmd41Loop _) fun _ _ _ =>
  .bind (simulates_command .cmd58) fun _ _ _ => .requireR1 (c := .cmd58) (by decide) <|
  .bind (simulates_readPayload4 .ocr) fun _ _ _ => .get <| .requireOcr <|
  simulates_deselect .init

end

/-- Settles O32. -/
theorem initRunsAsWritten : Obligations.InitRunsAsWritten :=
  ⟨rfl, runsAsWritten_of_simulates fun _ _ => simulates_init⟩

/-- Settles O33. -/
theorem getBlocksNumberRunsAsWritten : Obligations.GetBlocksNumberRunsAsWritten :=
  ⟨rfl, runsAsWritten_of_simulates fun _ _ => simulates_getBlocksNumber⟩

end Sys2Proof.Machine
end
